-- ==== Sys2Proof/Word.lean ====
section
/-! DEFINITION. The two word types of the machine: 8-bit registers and bytes, 16-bit pairs and addresses
(00_scope.md R11, R13, R14). Everything a test could show wrong about bytes and words (halves, sign extension,
fields, parity) stands in Sys2Proof/Machine/Bits.lean. -/

namespace Sys2Proof

/-- An 8-bit value: a register, a byte of memory, an immediate `n`, `d` or `e` (00_scope.md R13). -/
abbrev Byte := BitVec 8

/-- A 16-bit value: a register pair, `pc`, `SP`, an address of `M` or a port address (00_scope.md R13). -/
abbrev Word := BitVec 16

end Sys2Proof
end

