-- ==== Sys2Proof/Machine/Bits.lean ====
section
/-! DEFINITION. The bit-field, byte-order, sign-extension and parity helpers that the decoder, the operand forms and the
flag computations share (00_scope.md R13, R14; 20_memory.md R202; 30_encoding.md R301). -/

namespace Sys2Proof.Bits

/-- `v[7:0]` of a 16-bit value (R13). -/
def lo (w : Word) : Byte := w.extractLsb' 0 8

/-- `v[15:8]` of a 16-bit value (R13). -/
def hi (w : Word) : Byte := w.extractLsb' 8 8

/-- `H ++ L`: the first-named byte is the high one (R14, R103). -/
def pair (h l : Byte) : Word := h ++ l

/-- `sext_8(v)` as the 16-bit value that is added to an address (R14, R306). -/
def sext (v : Byte) : Word := v.signExtend 16

/-- `zext_16(v)` of a byte (R14). -/
def zext (v : Byte) : Word := v.setWidth 16

/-- `parity(v)`: 1 when v has an even number of set bits (R14). -/
def parity (v : Byte) : Bool :=
  ((List.range 8).countP fun i => v.getLsbD i) % 2 == 0

/-- `v[3:0]` as a number (R13). -/
def lowNibble (v : Byte) : Nat := v.toNat % 16

/-- `v[7:4]` as a number (R13). -/
def highNibble (v : Byte) : Nat := v.toNat / 16

/-- `x = op[7:6]` (R301). -/
def fieldX (op : Byte) : Nat := op.toNat / 64

/-- `y = op[5:3]` (R301). -/
def fieldY (op : Byte) : Nat := op.toNat / 8 % 8

/-- `z = op[2:0]` (R301). -/
def fieldZ (op : Byte) : Nat := op.toNat % 8

/-- `p = op[5:4]` (R301). -/
def fieldP (op : Byte) : Nat := op.toNat / 16 % 4

/-- `q = op[3]` (R301). -/
def fieldQ (op : Byte) : Nat := op.toNat / 8 % 2

/-- An opcode byte built from its fields x, y, z (R301). -/
def opcode (x y z : Nat) : Byte := BitVec.ofNat 8 (64 * x + 8 * y + z)

end Sys2Proof.Bits
end

