-- ==== Sys2Proof/Config.lean ====
section
/-! DEFINITION. The sizes and constants of 00_scope.md R11 that the spec's source itself states. The parameters of R11
whose default is the spec's own decision (costs of entry, vectors, the line period, the palette, …) stand in
Sys2Proof/Machine/Params.lean, because a later test could show one of them different. The spec leaves no value free
(93_implementation_defined.md part 2: "Nothing in this spec is `any value` inside the machine"), so there is no
opaque constant here. -/

namespace Sys2Proof.Config

/-- `ADDR_BITS` = 16: the number of bytes of `M`, "one flat 64KB byte array" (R11, R200). -/
def memSize : Nat := 65536

/-- `VRAM_SIZE`: 16 KB of video RAM (R11, R128). -/
def vramSize : Nat := 16384

/-- `LINES`: "a line counter cycles 0–261" (R11, R129). -/
def lines : Nat := 262

/-- `FRAME_W`: pixels of one row of the frame buffer (R11, R131). -/
def frameWidth : Nat := 256

/-- `FRAME_H`: rows of the frame buffer (R11, R131). -/
def frameHeight : Nat := 192

/-- The frame buffer's bytes, four a pixel: `FRAME_W * FRAME_H * 4` (R131). -/
def frameBytes : Nat := frameWidth * frameHeight * 4

/-- The constant alpha byte: "alpha fixed at 255" (R131). -/
def alpha : Byte := 255

/-- `SPRITES`: entries of the sprite attribute table (R11, R842). -/
def sprites : Nat := 32

/-- `SPRITES_PER_LINE`: the fifth visible sprite of a line sets overflow (R11, R843). -/
def spritesPerLine : Nat := 4

/-- `SPRITE_TERMINATOR`: Y = 208 ends the scan (R11, R843). -/
def spriteTerminator : Byte := 208

/-- `BOOT_ROM_MAX`: "first ≤8KB" (R11, R1004). -/
def bootRomMax : Nat := 8192

/-- `CART_BASE`: "from offset 0x8000" (R11, R1004). -/
def cartBase : Nat := 0x8000

/-- `CART_MAX`: "≤32KB" (R11, R1004). -/
def cartMax : Nat := 32768

end Sys2Proof.Config
end

