-- ==== Sys2Proof/Syntax.lean ====
section
/-! DEFINITION. The instructions: one constructor of `Instr` per row of spec/opcode_table.json, in the table's order,
with the operands its encoding carries (30_encoding.md R300, R301, R305, R306). -/

namespace Sys2Proof

/-- The r-table without entry 6, which is the memory operand (R305). -/
inductive Reg8 where
  | b | c | d | e | h | l | a
deriving DecidableEq, Repr

/-- The rp-table: BC, DE, HL, SP (R305). -/
inductive Rp where
  | bc | de | hl | sp
deriving DecidableEq, Repr

/-- The rp2-table of `PUSH` and `POP`: BC, DE, HL, AF (R305). -/
inductive Qq where
  | bc | de | hl | af
deriving DecidableEq, Repr

/-- The rp-table of the index forms, whose entry 2 is the index register itself: BC, DE, XY, SP (R305, R601). -/
inductive RpX where
  | bc | de | xy | sp
deriving DecidableEq, Repr

/-- The index register a prefix chooses: `0xDD` is IX, `0xFD` is IY (R310). -/
inductive Index where
  | ix | iy
deriving DecidableEq, Repr

/-- The cc-table: NZ, Z, NC, C, PO, PE, P, M (R305, R695). -/
inductive Cond where
  | nz | z | nc | c | po | pe | p | m
deriving DecidableEq, Repr

/-- One constructor per row of spec/opcode_table.json. `n` is an unsigned byte, `d` and `e` bytes read as signed,
`nn` two bytes low byte first, `b` a bit number, `p` a restart target (R306). -/
inductive Instr where
  -- 8-bit loads (40_load8.md)
  /-- `LD r,r'`: `01yyyzzz` (R400) -/
  | ldRR (r : Reg8) (r' : Reg8)
  /-- `LD r,n`: `00yyy110 nnnnnnnn` (R401) -/
  | ldRN (r : Reg8) (n : Byte)
  /-- `LD r,(HL)`: `01yyy110` (R402) -/
  | ldRAtHl (r : Reg8)
  /-- `LD (HL),r`: `01110zzz` (R403) -/
  | ldAtHlR (r : Reg8)
  /-- `LD (HL),n`: `00110110 nnnnnnnn` (R404) -/
  | ldAtHlN (n : Byte)
  /-- `LD A,(BC)`: `00001010` (R405) -/
  | ldAAtBc
  /-- `LD A,(DE)`: `00011010` (R406) -/
  | ldAAtDe
  /-- `LD A,(nn)`: `00111010 nnnnnnnn(lo) nnnnnnnn(hi)` (R407) -/
  | ldAAtNn (nn : Word)
  /-- `LD (BC),A`: `00000010` (R408) -/
  | ldAtBcA
  /-- `LD (DE),A`: `00010010` (R409) -/
  | ldAtDeA
  /-- `LD (nn),A`: `00110010 nnnnnnnn(lo) nnnnnnnn(hi)` (R410) -/
  | ldAtNnA (nn : Word)
  /-- `LD r,(IX+d)`: `11011101 01yyy110 dddddddd` (R411) -/
  | ldRIxd (r : Reg8) (d : Byte)
  /-- `LD r,(IY+d)`: `11111101 01yyy110 dddddddd` (R411) -/
  | ldRIyd (r : Reg8) (d : Byte)
  /-- `LD (IX+d),r`: `11011101 01110zzz dddddddd` (R412) -/
  | ldIxdR (d : Byte) (r : Reg8)
  /-- `LD (IY+d),r`: `11111101 01110zzz dddddddd` (R412) -/
  | ldIydR (d : Byte) (r : Reg8)
  /-- `LD (IX+d),n`: `11011101 00110110 dddddddd nnnnnnnn` (R413) -/
  | ldIxdN (d : Byte) (n : Byte)
  /-- `LD (IY+d),n`: `11111101 00110110 dddddddd nnnnnnnn` (R413) -/
  | ldIydN (d : Byte) (n : Byte)
  /-- `LD A,I`: `11101101 01010111` (R414) -/
  | ldAI
  /-- `LD A,R`: `11101101 01011111` (R415) -/
  | ldAR
  /-- `LD I,A`: `11101101 01000111` (R416) -/
  | ldIA
  /-- `LD R,A`: `11101101 01001111` (R417) -/
  | ldRA
  -- 16-bit loads and the stack (41_load16_stack.md)
  /-- `LD rr,nn`: `00pp0001 nnnnnnnn(lo) nnnnnnnn(hi)` (R450) -/
  | ldRrNn (rr : Rp) (nn : Word)
  /-- `LD IX,nn`: `11011101 00100001 nnnnnnnn(lo) nnnnnnnn(hi)` (R451) -/
  | ldIxNn (nn : Word)
  /-- `LD IY,nn`: `11111101 00100001 nnnnnnnn(lo) nnnnnnnn(hi)` (R451) -/
  | ldIyNn (nn : Word)
  /-- `LD HL,(nn)`: `00101010 nnnnnnnn(lo) nnnnnnnn(hi)` (R452) -/
  | ldHlAtNn (nn : Word)
  /-- `LD IX,(nn)`: `11011101 00101010 nnnnnnnn(lo) nnnnnnnn(hi)` (R453) -/
  | ldIxAtNn (nn : Word)
  /-- `LD IY,(nn)`: `11111101 00101010 nnnnnnnn(lo) nnnnnnnn(hi)` (R453) -/
  | ldIyAtNn (nn : Word)
  /-- `LD rr,(nn)`: `11101101 01pp1011 nnnnnnnn(lo) nnnnnnnn(hi)` (R454) -/
  | ldRrAtNn (rr : Rp) (nn : Word)
  /-- `LD (nn),HL`: `00100010 nnnnnnnn(lo) nnnnnnnn(hi)` (R455) -/
  | ldAtNnHl (nn : Word)
  /-- `LD (nn),IX`: `11011101 00100010 nnnnnnnn(lo) nnnnnnnn(hi)` (R456) -/
  | ldAtNnIx (nn : Word)
  /-- `LD (nn),IY`: `11111101 00100010 nnnnnnnn(lo) nnnnnnnn(hi)` (R456) -/
  | ldAtNnIy (nn : Word)
  /-- `LD (nn),rr`: `11101101 01pp0011 nnnnnnnn(lo) nnnnnnnn(hi)` (R457) -/
  | ldAtNnRr (nn : Word) (rr : Rp)
  /-- `LD SP,HL`: `11111001` (R458) -/
  | ldSpHl
  /-- `LD SP,IX`: `11011101 11111001` (R459) -/
  | ldSpIx
  /-- `LD SP,IY`: `11111101 11111001` (R459) -/
  | ldSpIy
  /-- `PUSH qq`: `11pp0101` (R460) -/
  | pushQq (qq : Qq)
  /-- `PUSH IX`: `11011101 11100101` (R461) -/
  | pushIx
  /-- `PUSH IY`: `11111101 11100101` (R461) -/
  | pushIy
  /-- `POP qq`: `11pp0001` (R462) -/
  | popQq (qq : Qq)
  /-- `POP IX`: `11011101 11100001` (R463) -/
  | popIx
  /-- `POP IY`: `11111101 11100001` (R463) -/
  | popIy
  -- exchanges, bank toggles, block transfer and search (42_exchange_block.md)
  /-- `EX DE,HL`: `11101011` (R500) -/
  | exDeHl
  /-- `EX AF,AF'`: `00001000` (R501) -/
  | exAfAf
  /-- `EXX`: `11011001` (R502) -/
  | exx
  /-- `EX (SP),HL`: `11100011` (R503) -/
  | exAtSpHl
  /-- `EX (SP),IX`: `11011101 11100011` (R504) -/
  | exAtSpIx
  /-- `EX (SP),IY`: `11111101 11100011` (R504) -/
  | exAtSpIy
  /-- `LDI`: `11101101 10100000` (R505) -/
  | ldi
  /-- `LDIR`: `11101101 10110000` (R506) -/
  | ldir
  /-- `LDD`: `11101101 10101000` (R507) -/
  | ldd
  /-- `LDDR`: `11101101 10111000` (R508) -/
  | lddr
  /-- `CPI`: `11101101 10100001` (R509) -/
  | cpi
  /-- `CPIR`: `11101101 10110001` (R510) -/
  | cpir
  /-- `CPD`: `11101101 10101001` (R511) -/
  | cpd
  /-- `CPDR`: `11101101 10111001` (R512) -/
  | cpdr
  -- 8-bit arithmetic and logic (43_alu8.md)
  /-- `ADD A,r`: `10000zzz` (R544) -/
  | addR (r : Reg8)
  /-- `ADD A,(HL)`: `10000110` (R544) -/
  | addAtHl
  /-- `ADD A,n`: `11000110 nnnnnnnn` (R544) -/
  | addN (n : Byte)
  /-- `ADD A,(IX+d)`: `11011101 10000110 dddddddd` (R544) -/
  | addIxd (d : Byte)
  /-- `ADD A,(IY+d)`: `11111101 10000110 dddddddd` (R544) -/
  | addIyd (d : Byte)
  /-- `ADC A,r`: `10001zzz` (R545) -/
  | adcR (r : Reg8)
  /-- `ADC A,(HL)`: `10001110` (R545) -/
  | adcAtHl
  /-- `ADC A,n`: `11001110 nnnnnnnn` (R545) -/
  | adcN (n : Byte)
  /-- `ADC A,(IX+d)`: `11011101 10001110 dddddddd` (R545) -/
  | adcIxd (d : Byte)
  /-- `ADC A,(IY+d)`: `11111101 10001110 dddddddd` (R545) -/
  | adcIyd (d : Byte)
  /-- `SUB r`: `10010zzz` (R546) -/
  | subR (r : Reg8)
  /-- `SUB (HL)`: `10010110` (R546) -/
  | subAtHl
  /-- `SUB n`: `11010110 nnnnnnnn` (R546) -/
  | subN (n : Byte)
  /-- `SUB (IX+d)`: `11011101 10010110 dddddddd` (R546) -/
  | subIxd (d : Byte)
  /-- `SUB (IY+d)`: `11111101 10010110 dddddddd` (R546) -/
  | subIyd (d : Byte)
  /-- `SBC A,r`: `10011zzz` (R547) -/
  | sbcR (r : Reg8)
  /-- `SBC A,(HL)`: `10011110` (R547) -/
  | sbcAtHl
  /-- `SBC A,n`: `11011110 nnnnnnnn` (R547) -/
  | sbcN (n : Byte)
  /-- `SBC A,(IX+d)`: `11011101 10011110 dddddddd` (R547) -/
  | sbcIxd (d : Byte)
  /-- `SBC A,(IY+d)`: `11111101 10011110 dddddddd` (R547) -/
  | sbcIyd (d : Byte)
  /-- `AND r`: `10100zzz` (R548) -/
  | andR (r : Reg8)
  /-- `AND (HL)`: `10100110` (R548) -/
  | andAtHl
  /-- `AND n`: `11100110 nnnnnnnn` (R548) -/
  | andN (n : Byte)
  /-- `AND (IX+d)`: `11011101 10100110 dddddddd` (R548) -/
  | andIxd (d : Byte)
  /-- `AND (IY+d)`: `11111101 10100110 dddddddd` (R548) -/
  | andIyd (d : Byte)
  /-- `XOR r`: `10101zzz` (R549) -/
  | xorR (r : Reg8)
  /-- `XOR (HL)`: `10101110` (R549) -/
  | xorAtHl
  /-- `XOR n`: `11101110 nnnnnnnn` (R549) -/
  | xorN (n : Byte)
  /-- `XOR (IX+d)`: `11011101 10101110 dddddddd` (R549) -/
  | xorIxd (d : Byte)
  /-- `XOR (IY+d)`: `11111101 10101110 dddddddd` (R549) -/
  | xorIyd (d : Byte)
  /-- `OR r`: `10110zzz` (R550) -/
  | orR (r : Reg8)
  /-- `OR (HL)`: `10110110` (R550) -/
  | orAtHl
  /-- `OR n`: `11110110 nnnnnnnn` (R550) -/
  | orN (n : Byte)
  /-- `OR (IX+d)`: `11011101 10110110 dddddddd` (R550) -/
  | orIxd (d : Byte)
  /-- `OR (IY+d)`: `11111101 10110110 dddddddd` (R550) -/
  | orIyd (d : Byte)
  /-- `CP r`: `10111zzz` (R551) -/
  | cpR (r : Reg8)
  /-- `CP (HL)`: `10111110` (R551) -/
  | cpAtHl
  /-- `CP n`: `11111110 nnnnnnnn` (R551) -/
  | cpN (n : Byte)
  /-- `CP (IX+d)`: `11011101 10111110 dddddddd` (R551) -/
  | cpIxd (d : Byte)
  /-- `CP (IY+d)`: `11111101 10111110 dddddddd` (R551) -/
  | cpIyd (d : Byte)
  /-- `INC r`: `00yyy100` (R552) -/
  | incR (r : Reg8)
  /-- `INC (HL)`: `00110100` (R552) -/
  | incAtHl
  /-- `INC (IX+d)`: `11011101 00110100 dddddddd` (R552) -/
  | incIxd (d : Byte)
  /-- `INC (IY+d)`: `11111101 00110100 dddddddd` (R552) -/
  | incIyd (d : Byte)
  /-- `DEC r`: `00yyy101` (R553) -/
  | decR (r : Reg8)
  /-- `DEC (HL)`: `00110101` (R553) -/
  | decAtHl
  /-- `DEC (IX+d)`: `11011101 00110101 dddddddd` (R553) -/
  | decIxd (d : Byte)
  /-- `DEC (IY+d)`: `11111101 00110101 dddddddd` (R553) -/
  | decIyd (d : Byte)
  /-- `DAA`: `00100111` (R554) -/
  | daa
  /-- `CPL`: `00101111` (R555) -/
  | cpl
  /-- `NEG`: `11101101 01000100` (R556) -/
  | neg
  /-- `CCF`: `00111111` (R557) -/
  | ccf
  /-- `SCF`: `00110111` (R558) -/
  | scf
  -- 16-bit arithmetic (44_alu16.md)
  /-- `ADD HL,rr`: `00pp1001` (R600) -/
  | addHlRr (rr : Rp)
  /-- `ADD IX,rr`: `11011101 00pp1001` (R601) -/
  | addIxRr (rr : RpX)
  /-- `ADD IY,rr`: `11111101 00pp1001` (R601) -/
  | addIyRr (rr : RpX)
  /-- `ADC HL,rr`: `11101101 01pp1010` (R602) -/
  | adcHlRr (rr : Rp)
  /-- `SBC HL,rr`: `11101101 01pp0010` (R603) -/
  | sbcHlRr (rr : Rp)
  /-- `INC rr`: `00pp0011` (R604) -/
  | incRr (rr : Rp)
  /-- `INC IX`: `11011101 00100011` (R605) -/
  | incIx
  /-- `INC IY`: `11111101 00100011` (R605) -/
  | incIy
  /-- `DEC rr`: `00pp1011` (R606) -/
  | decRr (rr : Rp)
  /-- `DEC IX`: `11011101 00101011` (R607) -/
  | decIx
  /-- `DEC IY`: `11111101 00101011` (R607) -/
  | decIy
  -- rotates, shifts, bits and digit rotates (45_rotate_bit.md)
  /-- `RLCA`: `00000111` (R642) -/
  | rlca
  /-- `RRCA`: `00001111` (R643) -/
  | rrca
  /-- `RLA`: `00010111` (R644) -/
  | rla
  /-- `RRA`: `00011111` (R645) -/
  | rra
  /-- `RLC r`: `11001011 00000zzz` (R646) -/
  | rlcR (r : Reg8)
  /-- `RLC (HL)`: `11001011 00000110` (R646) -/
  | rlcAtHl
  /-- `RLC (IX+d)`: `11011101 11001011 dddddddd 00000110` (R646) -/
  | rlcIxd (d : Byte)
  /-- `RLC (IY+d)`: `11111101 11001011 dddddddd 00000110` (R646) -/
  | rlcIyd (d : Byte)
  /-- `RRC r`: `11001011 00001zzz` (R647) -/
  | rrcR (r : Reg8)
  /-- `RRC (HL)`: `11001011 00001110` (R647) -/
  | rrcAtHl
  /-- `RRC (IX+d)`: `11011101 11001011 dddddddd 00001110` (R647) -/
  | rrcIxd (d : Byte)
  /-- `RRC (IY+d)`: `11111101 11001011 dddddddd 00001110` (R647) -/
  | rrcIyd (d : Byte)
  /-- `RL r`: `11001011 00010zzz` (R648) -/
  | rlR (r : Reg8)
  /-- `RL (HL)`: `11001011 00010110` (R648) -/
  | rlAtHl
  /-- `RL (IX+d)`: `11011101 11001011 dddddddd 00010110` (R648) -/
  | rlIxd (d : Byte)
  /-- `RL (IY+d)`: `11111101 11001011 dddddddd 00010110` (R648) -/
  | rlIyd (d : Byte)
  /-- `RR r`: `11001011 00011zzz` (R649) -/
  | rrR (r : Reg8)
  /-- `RR (HL)`: `11001011 00011110` (R649) -/
  | rrAtHl
  /-- `RR (IX+d)`: `11011101 11001011 dddddddd 00011110` (R649) -/
  | rrIxd (d : Byte)
  /-- `RR (IY+d)`: `11111101 11001011 dddddddd 00011110` (R649) -/
  | rrIyd (d : Byte)
  /-- `SLA r`: `11001011 00100zzz` (R650) -/
  | slaR (r : Reg8)
  /-- `SLA (HL)`: `11001011 00100110` (R650) -/
  | slaAtHl
  /-- `SLA (IX+d)`: `11011101 11001011 dddddddd 00100110` (R650) -/
  | slaIxd (d : Byte)
  /-- `SLA (IY+d)`: `11111101 11001011 dddddddd 00100110` (R650) -/
  | slaIyd (d : Byte)
  /-- `SRA r`: `11001011 00101zzz` (R651) -/
  | sraR (r : Reg8)
  /-- `SRA (HL)`: `11001011 00101110` (R651) -/
  | sraAtHl
  /-- `SRA (IX+d)`: `11011101 11001011 dddddddd 00101110` (R651) -/
  | sraIxd (d : Byte)
  /-- `SRA (IY+d)`: `11111101 11001011 dddddddd 00101110` (R651) -/
  | sraIyd (d : Byte)
  /-- `SLL r`: `11001011 00110zzz` (R652) -/
  | sllR (r : Reg8)
  /-- `SLL (HL)`: `11001011 00110110` (R652) -/
  | sllAtHl
  /-- `SLL (IX+d)`: `11011101 11001011 dddddddd 00110110` (R652) -/
  | sllIxd (d : Byte)
  /-- `SLL (IY+d)`: `11111101 11001011 dddddddd 00110110` (R652) -/
  | sllIyd (d : Byte)
  /-- `SRL r`: `11001011 00111zzz` (R653) -/
  | srlR (r : Reg8)
  /-- `SRL (HL)`: `11001011 00111110` (R653) -/
  | srlAtHl
  /-- `SRL (IX+d)`: `11011101 11001011 dddddddd 00111110` (R653) -/
  | srlIxd (d : Byte)
  /-- `SRL (IY+d)`: `11111101 11001011 dddddddd 00111110` (R653) -/
  | srlIyd (d : Byte)
  /-- `BIT b,r`: `11001011 01bbbzzz` (R654) -/
  | bitR (b : Fin 8) (r : Reg8)
  /-- `BIT b,(HL)`: `11001011 01bbb110` (R654) -/
  | bitAtHl (b : Fin 8)
  /-- `BIT b,(IX+d)`: `11011101 11001011 dddddddd 01bbb110` (R654) -/
  | bitIxd (b : Fin 8) (d : Byte)
  /-- `BIT b,(IY+d)`: `11111101 11001011 dddddddd 01bbb110` (R654) -/
  | bitIyd (b : Fin 8) (d : Byte)
  /-- `RES b,r`: `11001011 10bbbzzz` (R655) -/
  | resR (b : Fin 8) (r : Reg8)
  /-- `RES b,(HL)`: `11001011 10bbb110` (R655) -/
  | resAtHl (b : Fin 8)
  /-- `RES b,(IX+d)`: `11011101 11001011 dddddddd 10bbb110` (R655) -/
  | resIxd (b : Fin 8) (d : Byte)
  /-- `RES b,(IY+d)`: `11111101 11001011 dddddddd 10bbb110` (R655) -/
  | resIyd (b : Fin 8) (d : Byte)
  /-- `SET b,r`: `11001011 11bbbzzz` (R656) -/
  | setR (b : Fin 8) (r : Reg8)
  /-- `SET b,(HL)`: `11001011 11bbb110` (R656) -/
  | setAtHl (b : Fin 8)
  /-- `SET b,(IX+d)`: `11011101 11001011 dddddddd 11bbb110` (R656) -/
  | setIxd (b : Fin 8) (d : Byte)
  /-- `SET b,(IY+d)`: `11111101 11001011 dddddddd 11bbb110` (R656) -/
  | setIyd (b : Fin 8) (d : Byte)
  /-- `RLD`: `11101101 01101111` (R657) -/
  | rld
  /-- `RRD`: `11101101 01100111` (R658) -/
  | rrd
  -- jumps, calls, returns and restarts (46_control.md)
  /-- `JP nn`: `11000011 nnnnnnnn(lo) nnnnnnnn(hi)` (R700) -/
  | jpNn (nn : Word)
  /-- `JP cc,nn`: `11ccc010 nnnnnnnn(lo) nnnnnnnn(hi)` (R701) -/
  | jpCcNn (cc : Cond) (nn : Word)
  /-- `JR e`: `00011000 eeeeeeee` (R702) -/
  | jrE (e : Byte)
  /-- `JR cc,e`: `001cc000 eeeeeeee` (R703) -/
  | jrCcE (cc : Cond) (e : Byte)
  /-- `DJNZ e`: `00010000 eeeeeeee` (R704) -/
  | djnzE (e : Byte)
  /-- `JP (HL)`: `11101001` (R705) -/
  | jpHl
  /-- `JP (IX)`: `11011101 11101001` (R706) -/
  | jpIx
  /-- `JP (IY)`: `11111101 11101001` (R706) -/
  | jpIy
  /-- `CALL nn`: `11001101 nnnnnnnn(lo) nnnnnnnn(hi)` (R707) -/
  | callNn (nn : Word)
  /-- `CALL cc,nn`: `11ccc100 nnnnnnnn(lo) nnnnnnnn(hi)` (R708) -/
  | callCcNn (cc : Cond) (nn : Word)
  /-- `RET`: `11001001` (R709) -/
  | ret
  /-- `RET cc`: `11ccc000` (R710) -/
  | retCc (cc : Cond)
  /-- `RETI`: `11101101 01001101` (R711) -/
  | reti
  /-- `RETN`: `11101101 01000101` (R712) -/
  | retn
  /-- `RST p`: `11ttt111` (R713) -/
  | rst (p : Byte)
  -- input/output and CPU control (47_io_cpu_control.md)
  /-- `IN A,(n)`: `11011011 nnnnnnnn` (R740) -/
  | inAN (n : Byte)
  /-- `IN r,(C)`: `11101101 01yyy000` (R741) -/
  | inRC (r : Reg8)
  /-- `OUT (n),A`: `11010011 nnnnnnnn` (R742) -/
  | outNA (n : Byte)
  /-- `OUT (C),r`: `11101101 01yyy001` (R743) -/
  | outCR (r : Reg8)
  /-- `INI`: `11101101 10100010` (R744) -/
  | ini
  /-- `INIR`: `11101101 10110010` (R745) -/
  | inir
  /-- `IND`: `11101101 10101010` (R746) -/
  | ind
  /-- `INDR`: `11101101 10111010` (R747) -/
  | indr
  /-- `OUTI`: `11101101 10100011` (R748) -/
  | outi
  /-- `OTIR`: `11101101 10110011` (R749) -/
  | otir
  /-- `OUTD`: `11101101 10101011` (R750) -/
  | outd
  /-- `OTDR`: `11101101 10111011` (R751) -/
  | otdr
  /-- `NOP`: `00000000` (R762) -/
  | nop
  /-- `HALT`: `01110110` (R763) -/
  | halt
  /-- `DI`: `11110011` (R764) -/
  | di
  /-- `EI`: `11111011` (R765) -/
  | ei
  /-- `IM 0`: `11101101 01000110` (R766) -/
  | im0
  /-- `IM 1`: `11101101 01010110` (R767) -/
  | im1
  /-- `IM 2`: `11101101 01011110` (R768) -/
  | im2
deriving DecidableEq, Repr

end Sys2Proof
end

