-- ==== Sys2Proof/Machine/Params.lean ====
section
/-! DEFINITION. The implementation parameters of 00_scope.md R11 whose value is the spec's own decision, each at the
default the rules use (log 8). -/

namespace Sys2Proof.Params

/-- `IMPLEMENTED_SET`: by default every row of opcode_table.json (R3, R11, D1). -/
def implemented (_ : Instr) : Bool := true

/-- `COST` (R11, D2, R1020): the T-states of an instruction, the `cycles` column of opcode_table.json. `taken` says that a
branch is taken or that a block instruction repeats; only those have two costs. -/
def cost (i : Instr) (taken : Bool := false) : Nat :=
  match i with
  | .ldRR .. | .exDeHl | .exAfAf | .exx | .addR .. | .adcR .. | .subR .. | .sbcR .. | .andR .. | .xorR ..
  | .orR .. | .cpR .. | .incR .. | .decR .. | .daa | .cpl | .ccf | .scf | .rlca | .rrca | .rla | .rra | .jpHl
  | .nop | .halt | .di | .ei => 4
  | .ldSpHl | .incRr .. | .decRr .. => 6
  | .ldRN .. | .ldRAtHl .. | .ldAtHlR .. | .ldAAtBc | .ldAAtDe | .ldAtBcA | .ldAtDeA | .addAtHl | .addN ..
  | .adcAtHl | .adcN .. | .subAtHl | .subN .. | .sbcAtHl | .sbcN .. | .andAtHl | .andN .. | .xorAtHl | .xorN ..
  | .orAtHl | .orN .. | .cpAtHl | .cpN .. => 7
  | .neg | .rlcR .. | .rrcR .. | .rlR .. | .rrR .. | .slaR .. | .sraR .. | .sllR .. | .srlR .. | .bitR ..
  | .resR .. | .setR .. | .jpIx | .jpIy | .im0 | .im1 | .im2 => 8
  | .ldAI | .ldAR | .ldIA | .ldRA => 9
  | .ldAtHlN .. | .ldRrNn .. | .ldSpIx | .ldSpIy | .popQq .. | .incIx | .incIy | .decIx | .decIy | .jpNn ..
  | .jpCcNn .. | .ret => 10
  | .pushQq .. | .incAtHl | .decAtHl | .addHlRr .. | .rst .. | .inAN .. | .outNA .. => 11
  | .bitAtHl .. | .jrE .. | .inRC .. | .outCR .. => 12
  | .ldAAtNn .. | .ldAtNnA .. => 13
  | .ldIxNn .. | .ldIyNn .. | .popIx | .popIy | .reti | .retn => 14
  | .pushIx | .pushIy | .addIxRr .. | .addIyRr .. | .adcHlRr .. | .sbcHlRr .. | .rlcAtHl | .rrcAtHl | .rlAtHl
  | .rrAtHl | .slaAtHl | .sraAtHl | .sllAtHl | .srlAtHl | .resAtHl .. | .setAtHl .. => 15
  | .ldHlAtNn .. | .ldAtNnHl .. | .ldi | .ldd | .cpi | .cpd | .ini | .ind | .outi | .outd => 16
  | .callNn .. => 17
  | .rld | .rrd => 18
  | .ldRIxd .. | .ldRIyd .. | .ldIxdR .. | .ldIydR .. | .ldIxdN .. | .ldIydN .. | .exAtSpHl | .addIxd ..
  | .addIyd .. | .adcIxd .. | .adcIyd .. | .subIxd .. | .subIyd .. | .sbcIxd .. | .sbcIyd .. | .andIxd ..
  | .andIyd .. | .xorIxd .. | .xorIyd .. | .orIxd .. | .orIyd .. | .cpIxd .. | .cpIyd .. => 19
  | .ldIxAtNn .. | .ldIyAtNn .. | .ldRrAtNn .. | .ldAtNnIx .. | .ldAtNnIy .. | .ldAtNnRr .. | .bitIxd ..
  | .bitIyd .. => 20
  | .exAtSpIx | .exAtSpIy | .incIxd .. | .incIyd .. | .decIxd .. | .decIyd .. | .rlcIxd .. | .rlcIyd ..
  | .rrcIxd .. | .rrcIyd .. | .rlIxd .. | .rlIyd .. | .rrIxd .. | .rrIyd .. | .slaIxd .. | .slaIyd ..
  | .sraIxd .. | .sraIyd .. | .sllIxd .. | .sllIyd .. | .srlIxd .. | .srlIyd .. | .resIxd .. | .resIyd ..
  | .setIxd .. | .setIyd .. => 23
  | .retCc .. => if taken then 11 else 5
  | .jrCcE .. => if taken then 12 else 7
  | .djnzE .. => if taken then 13 else 8
  | .callCcNn .. => if taken then 17 else 10
  | .ldir | .lddr | .cpir | .cpdr | .inir | .indr | .otir | .otdr => if taken then 21 else 16

/-- `LINE_PERIOD`: T-states per VDP tick (R11, R930, D18). -/
def linePeriod : Nat := 228

/-- `NMI_VECTOR` (R11, R910, D3). -/
def nmiVector : Word := 0x0066

/-- `NMI_COST` (R11, R910, D3). -/
def nmiCost : Nat := 11

/-- `IM1_VECTOR` (R11, R911, D4). -/
def im1Vector : Word := 0x0038

/-- `IM1_COST` (R11, R911, D4). -/
def im1Cost : Nat := 13

/-- `HALT_IDLE_COST` (R11, R900, D8). -/
def haltIdleCost : Nat := 0

/-- `UNMAPPED_IN` (R11, R220, D33). -/
def unmappedIn : Byte := 0xFF

/-- `ADD16_N`: the N flag after `ADD HL,rr` and `ADD XY,rr`, from the N flag before: unchanged (R11, R600, D16). -/
def add16N (before : Bool) : Bool := before

/-- The RAM window that reset clears, `RAM_CLEAR` = 0x6000..0x7FFF (R11, R1000, D13). -/
def inRamWindow (a : Nat) : Bool := 0x6000 ≤ a && a ≤ 0x7FFF

/-- `VDP_REG_MASK[n]` (R803, D20). -/
def vdpRegMask (n : Fin 8) : Byte :=
  match n with
  | 0 => 0x03
  | 1 => 0xFB
  | 2 => 0x0F
  | 3 => 0xFF
  | 4 => 0x07
  | 5 => 0x7F
  | 6 => 0x07
  | 7 => 0xFF

/-- `VDP_START_LINE` (R11, R830, D19). -/
def vdpStartLine : Nat := 0

/-- `VDP_END_LINE` (R11, R830, D19). -/
def vdpEndLine : Nat := 191

/-- `EARLY_CLOCK_OFFSET`: pixels (R11, R846, D28). -/
def earlyClockOffset : Nat := 32

/-- `RENDER_GATE`: every active line is rendered (R832, D31). -/
def renderGate : Bool := true

/-- `PALETTE[c]` as (R, G, B) (R855, D25). -/
def palette (c : BitVec 4) : Byte × Byte × Byte :=
  match c.toNat with
  | 0 => (0, 0, 0)
  | 1 => (0, 0, 0)
  | 2 => (33, 200, 66)
  | 3 => (94, 220, 120)
  | 4 => (84, 85, 237)
  | 5 => (125, 118, 252)
  | 6 => (212, 82, 77)
  | 7 => (66, 235, 245)
  | 8 => (252, 85, 84)
  | 9 => (255, 121, 120)
  | 10 => (212, 193, 84)
  | 11 => (230, 206, 128)
  | 12 => (33, 176, 59)
  | 13 => (201, 91, 186)
  | 14 => (204, 204, 204)
  | _ => (255, 255, 255)

end Sys2Proof.Params
end

