-- ==== Sys2Proof/WellFormed.lean ====
section
/-! DEFINITION. Which instructions an encoding exists for. The operand types already exclude r-table entry 6 and bit
numbers above 7; two operands remain to be checked: `JR cc` has only the conditions of codes 0 to 3 (30_encoding.md
R305, 46_control.md R703), and the target of `RST` is `y * 8` (R306, R713). -/

namespace Sys2Proof

/-- The conditions `JR cc,e` can encode in `op[4:3]`: NZ, Z, NC, C (R305, R703). -/
def Cond.jrEncodable : Cond → Bool
  | .nz | .z | .nc | .c => true
  | .po | .pe | .p | .m => false

/-- The restart targets 0x00, 0x08, …, 0x38 (R713). -/
def rstTarget (p : Byte) : Bool := p &&& 0xC7 == 0

/-- An instruction that some encoding stands for. -/
def Instr.wellFormed : Instr → Bool
  | .jrCcE cc _ => cc.jrEncodable
  | .rst p => rstTarget p
  | .ldRR _ _ => true
  | .ldRN _ _ => true
  | .ldRAtHl _ => true
  | .ldAtHlR _ => true
  | .ldAtHlN _ => true
  | .ldAAtBc => true
  | .ldAAtDe => true
  | .ldAAtNn _ => true
  | .ldAtBcA => true
  | .ldAtDeA => true
  | .ldAtNnA _ => true
  | .ldRIxd _ _ => true
  | .ldRIyd _ _ => true
  | .ldIxdR _ _ => true
  | .ldIydR _ _ => true
  | .ldIxdN _ _ => true
  | .ldIydN _ _ => true
  | .ldAI => true
  | .ldAR => true
  | .ldIA => true
  | .ldRA => true
  | .ldRrNn _ _ => true
  | .ldIxNn _ => true
  | .ldIyNn _ => true
  | .ldHlAtNn _ => true
  | .ldIxAtNn _ => true
  | .ldIyAtNn _ => true
  | .ldRrAtNn _ _ => true
  | .ldAtNnHl _ => true
  | .ldAtNnIx _ => true
  | .ldAtNnIy _ => true
  | .ldAtNnRr _ _ => true
  | .ldSpHl => true
  | .ldSpIx => true
  | .ldSpIy => true
  | .pushQq _ => true
  | .pushIx => true
  | .pushIy => true
  | .popQq _ => true
  | .popIx => true
  | .popIy => true
  | .exDeHl => true
  | .exAfAf => true
  | .exx => true
  | .exAtSpHl => true
  | .exAtSpIx => true
  | .exAtSpIy => true
  | .ldi => true
  | .ldir => true
  | .ldd => true
  | .lddr => true
  | .cpi => true
  | .cpir => true
  | .cpd => true
  | .cpdr => true
  | .addR _ => true
  | .addAtHl => true
  | .addN _ => true
  | .addIxd _ => true
  | .addIyd _ => true
  | .adcR _ => true
  | .adcAtHl => true
  | .adcN _ => true
  | .adcIxd _ => true
  | .adcIyd _ => true
  | .subR _ => true
  | .subAtHl => true
  | .subN _ => true
  | .subIxd _ => true
  | .subIyd _ => true
  | .sbcR _ => true
  | .sbcAtHl => true
  | .sbcN _ => true
  | .sbcIxd _ => true
  | .sbcIyd _ => true
  | .andR _ => true
  | .andAtHl => true
  | .andN _ => true
  | .andIxd _ => true
  | .andIyd _ => true
  | .xorR _ => true
  | .xorAtHl => true
  | .xorN _ => true
  | .xorIxd _ => true
  | .xorIyd _ => true
  | .orR _ => true
  | .orAtHl => true
  | .orN _ => true
  | .orIxd _ => true
  | .orIyd _ => true
  | .cpR _ => true
  | .cpAtHl => true
  | .cpN _ => true
  | .cpIxd _ => true
  | .cpIyd _ => true
  | .incR _ => true
  | .incAtHl => true
  | .incIxd _ => true
  | .incIyd _ => true
  | .decR _ => true
  | .decAtHl => true
  | .decIxd _ => true
  | .decIyd _ => true
  | .daa => true
  | .cpl => true
  | .neg => true
  | .ccf => true
  | .scf => true
  | .addHlRr _ => true
  | .addIxRr _ => true
  | .addIyRr _ => true
  | .adcHlRr _ => true
  | .sbcHlRr _ => true
  | .incRr _ => true
  | .incIx => true
  | .incIy => true
  | .decRr _ => true
  | .decIx => true
  | .decIy => true
  | .rlca => true
  | .rrca => true
  | .rla => true
  | .rra => true
  | .rlcR _ => true
  | .rlcAtHl => true
  | .rlcIxd _ => true
  | .rlcIyd _ => true
  | .rrcR _ => true
  | .rrcAtHl => true
  | .rrcIxd _ => true
  | .rrcIyd _ => true
  | .rlR _ => true
  | .rlAtHl => true
  | .rlIxd _ => true
  | .rlIyd _ => true
  | .rrR _ => true
  | .rrAtHl => true
  | .rrIxd _ => true
  | .rrIyd _ => true
  | .slaR _ => true
  | .slaAtHl => true
  | .slaIxd _ => true
  | .slaIyd _ => true
  | .sraR _ => true
  | .sraAtHl => true
  | .sraIxd _ => true
  | .sraIyd _ => true
  | .sllR _ => true
  | .sllAtHl => true
  | .sllIxd _ => true
  | .sllIyd _ => true
  | .srlR _ => true
  | .srlAtHl => true
  | .srlIxd _ => true
  | .srlIyd _ => true
  | .bitR _ _ => true
  | .bitAtHl _ => true
  | .bitIxd _ _ => true
  | .bitIyd _ _ => true
  | .resR _ _ => true
  | .resAtHl _ => true
  | .resIxd _ _ => true
  | .resIyd _ _ => true
  | .setR _ _ => true
  | .setAtHl _ => true
  | .setIxd _ _ => true
  | .setIyd _ _ => true
  | .rld => true
  | .rrd => true
  | .jpNn _ => true
  | .jpCcNn _ _ => true
  | .jrE _ => true
  | .djnzE _ => true
  | .jpHl => true
  | .jpIx => true
  | .jpIy => true
  | .callNn _ => true
  | .callCcNn _ _ => true
  | .ret => true
  | .retCc _ => true
  | .reti => true
  | .retn => true
  | .inAN _ => true
  | .inRC _ => true
  | .outNA _ => true
  | .outCR _ => true
  | .ini => true
  | .inir => true
  | .ind => true
  | .indr => true
  | .outi => true
  | .otir => true
  | .outd => true
  | .otdr => true
  | .nop => true
  | .halt => true
  | .di => true
  | .ei => true
  | .im0 => true
  | .im1 => true
  | .im2 => true

end Sys2Proof
end

