-- ==== Sys2Proof/Decode.lean ====
section
/-! DEFINITION. The decoder of 30_encoding.md R302 with the opcode maps R320 to R324, total on any four bytes and
rejecting by name; the length and refresh count of each instruction (R303, R304); and the encoder, written from the
`encoding` patterns of spec/opcode_table.json. -/

namespace Sys2Proof

/-! ## The operand tables (R305) -/

/-- The r-table; entry 6 is the memory operand and names no register (R305). -/
def Reg8.ofCode (code : Nat) : Option Reg8 :=
  match code with
  | 0 => some .b
  | 1 => some .c
  | 2 => some .d
  | 3 => some .e
  | 4 => some .h
  | 5 => some .l
  | 7 => some .a
  | _ => none

/-- A register's r-table code (R305). -/
def Reg8.code : Reg8 → Nat
  | .b => 0 | .c => 1 | .d => 2 | .e => 3 | .h => 4 | .l => 5 | .a => 7

/-- The rp-table at a 2-bit code (R305). -/
def Rp.ofCode (code : Nat) : Rp :=
  match code with
  | 0 => .bc
  | 1 => .de
  | 2 => .hl
  | _ => .sp

/-- A pair's rp-table code (R305). -/
def Rp.code : Rp → Nat
  | .bc => 0 | .de => 1 | .hl => 2 | .sp => 3

/-- The rp2-table at a 2-bit code (R305). -/
def Qq.ofCode (code : Nat) : Qq :=
  match code with
  | 0 => .bc
  | 1 => .de
  | 2 => .hl
  | _ => .af

/-- A pair's rp2-table code (R305). -/
def Qq.code : Qq → Nat
  | .bc => 0 | .de => 1 | .hl => 2 | .af => 3

/-- The rp-table of the index forms at a 2-bit code: entry 2 is `XY` (R305). -/
def RpX.ofCode (code : Nat) : RpX :=
  match code with
  | 0 => .bc
  | 1 => .de
  | 2 => .xy
  | _ => .sp

/-- A pair's code in the index forms (R305). -/
def RpX.code : RpX → Nat
  | .bc => 0 | .de => 1 | .xy => 2 | .sp => 3

/-- The cc-table at a 3-bit code (R305, R695). -/
def Cond.ofCode (code : Nat) : Cond :=
  match code with
  | 0 => .nz
  | 1 => .z
  | 2 => .nc
  | 3 => .c
  | 4 => .po
  | 5 => .pe
  | 6 => .p
  | _ => .m

/-- A condition's cc-table code (R305, R695). -/
def Cond.code : Cond → Nat
  | .nz => 0 | .z => 1 | .nc => 2 | .c => 3 | .po => 4 | .pe => 5 | .p => 6 | .m => 7

/-- The bit number `y` of BIT, RES and SET (R306). -/
def bitNumber (y : Nat) : Fin 8 := Fin.ofNat 8 y

/-! ## The operation tables: alu and rot, in each operand form (R305, R543, R646 to R653) -/

/-- `10ooozzz`: the alu-table on a register. -/
def aluReg (y : Nat) (r : Reg8) : Instr :=
  match y with
  | 0 => .addR r
  | 1 => .adcR r
  | 2 => .subR r
  | 3 => .sbcR r
  | 4 => .andR r
  | 5 => .xorR r
  | 6 => .orR r
  | _ => .cpR r

/-- `10ooo110`: the alu-table on `(HL)`. -/
def aluAtHl (y : Nat) : Instr :=
  match y with
  | 0 => .addAtHl
  | 1 => .adcAtHl
  | 2 => .subAtHl
  | 3 => .sbcAtHl
  | 4 => .andAtHl
  | 5 => .xorAtHl
  | 6 => .orAtHl
  | _ => .cpAtHl

/-- `11ooo110 n`: the alu-table on an immediate. -/
def aluImm (y : Nat) (n : Byte) : Instr :=
  match y with
  | 0 => .addN n
  | 1 => .adcN n
  | 2 => .subN n
  | 3 => .sbcN n
  | 4 => .andN n
  | 5 => .xorN n
  | 6 => .orN n
  | _ => .cpN n

/-- `DD/FD 10ooo110 d`: the alu-table on `(XY+d)`. -/
def aluIndexed (xy : Index) (y : Nat) (d : Byte) : Instr :=
  match xy with
  | .ix =>
    match y with
    | 0 => .addIxd d
    | 1 => .adcIxd d
    | 2 => .subIxd d
    | 3 => .sbcIxd d
    | 4 => .andIxd d
    | 5 => .xorIxd d
    | 6 => .orIxd d
    | _ => .cpIxd d
  | .iy =>
    match y with
    | 0 => .addIyd d
    | 1 => .adcIyd d
    | 2 => .subIyd d
    | 3 => .sbcIyd d
    | 4 => .andIyd d
    | 5 => .xorIyd d
    | 6 => .orIyd d
    | _ => .cpIyd d

/-- `CB 00ooozzz`: the rot-table on a register. -/
def rotReg (y : Nat) (r : Reg8) : Instr :=
  match y with
  | 0 => .rlcR r
  | 1 => .rrcR r
  | 2 => .rlR r
  | 3 => .rrR r
  | 4 => .slaR r
  | 5 => .sraR r
  | 6 => .sllR r
  | _ => .srlR r

/-- `CB 00ooo110`: the rot-table on `(HL)`. -/
def rotAtHl (y : Nat) : Instr :=
  match y with
  | 0 => .rlcAtHl
  | 1 => .rrcAtHl
  | 2 => .rlAtHl
  | 3 => .rrAtHl
  | 4 => .slaAtHl
  | 5 => .sraAtHl
  | 6 => .sllAtHl
  | _ => .srlAtHl

/-- `DD/FD CB d 00ooo110`: the rot-table on `(XY+d)`. -/
def rotIndexed (xy : Index) (y : Nat) (d : Byte) : Instr :=
  match xy with
  | .ix =>
    match y with
    | 0 => .rlcIxd d
    | 1 => .rrcIxd d
    | 2 => .rlIxd d
    | 3 => .rrIxd d
    | 4 => .slaIxd d
    | 5 => .sraIxd d
    | 6 => .sllIxd d
    | _ => .srlIxd d
  | .iy =>
    match y with
    | 0 => .rlcIyd d
    | 1 => .rrcIyd d
    | 2 => .rlIyd d
    | 3 => .rrIyd d
    | 4 => .slaIyd d
    | 5 => .sraIyd d
    | 6 => .sllIyd d
    | _ => .srlIyd d

/-! ## The opcode maps -/

/-- R320, opcodes 0x00 to 0x3F. -/
def decodeBase0 (y z : Nat) (b1 b2 : Byte) : Instr :=
  match z with
  | 0 =>
    match y with
    | 0 => .nop
    | 1 => .exAfAf
    | 2 => .djnzE b1
    | 3 => .jrE b1
    | _ => .jrCcE (Cond.ofCode (y - 4)) b1
  | 1 =>
    if y % 2 = 0 then .ldRrNn (Rp.ofCode (y / 2)) (Bits.pair b2 b1) else .addHlRr (Rp.ofCode (y / 2))
  | 2 =>
    match y with
    | 0 => .ldAtBcA
    | 1 => .ldAAtBc
    | 2 => .ldAtDeA
    | 3 => .ldAAtDe
    | 4 => .ldAtNnHl (Bits.pair b2 b1)
    | 5 => .ldHlAtNn (Bits.pair b2 b1)
    | 6 => .ldAtNnA (Bits.pair b2 b1)
    | _ => .ldAAtNn (Bits.pair b2 b1)
  | 3 =>
    if y % 2 = 0 then .incRr (Rp.ofCode (y / 2)) else .decRr (Rp.ofCode (y / 2))
  | 4 =>
    match Reg8.ofCode y with
    | some r => .incR r
    | none => .incAtHl
  | 5 =>
    match Reg8.ofCode y with
    | some r => .decR r
    | none => .decAtHl
  | 6 =>
    match Reg8.ofCode y with
    | some r => .ldRN r b1
    | none => .ldAtHlN b1
  | _ =>
    match y with
    | 0 => .rlca
    | 1 => .rrca
    | 2 => .rla
    | 3 => .rra
    | 4 => .daa
    | 5 => .cpl
    | 6 => .scf
    | _ => .ccf

/-- R320, opcodes 0x40 to 0x7F. -/
def decodeBase1 (y z : Nat) : Instr :=
  match Reg8.ofCode y, Reg8.ofCode z with
  | some r, some r' => .ldRR r r'
  | some r, none => .ldRAtHl r
  | none, some r' => .ldAtHlR r'
  | none, none => .halt

/-- R320, opcodes 0x80 to 0xBF. -/
def decodeBase2 (y z : Nat) : Instr :=
  match Reg8.ofCode z with
  | some r => aluReg y r
  | none => aluAtHl y

/-- R320, opcodes 0xC0 to 0xFF; the four prefixes are no base instruction. -/
def decodeBase3 (y z : Nat) (b1 b2 : Byte) : Option Instr :=
  match z with
  | 0 => some (.retCc (Cond.ofCode y))
  | 1 =>
    match y with
    | 1 => some .ret
    | 3 => some .exx
    | 5 => some .jpHl
    | 7 => some .ldSpHl
    | _ => some (.popQq (Qq.ofCode (y / 2)))
  | 2 => some (.jpCcNn (Cond.ofCode y) (Bits.pair b2 b1))
  | 3 =>
    match y with
    | 0 => some (.jpNn (Bits.pair b2 b1))
    | 2 => some (.outNA b1)
    | 3 => some (.inAN b1)
    | 4 => some .exAtSpHl
    | 5 => some .exDeHl
    | 6 => some .di
    | 7 => some .ei
    | _ => none
  | 4 => some (.callCcNn (Cond.ofCode y) (Bits.pair b2 b1))
  | 5 =>
    match y with
    | 1 => some (.callNn (Bits.pair b2 b1))
    | 3 => none
    | 5 => none
    | 7 => none
    | _ => some (.pushQq (Qq.ofCode (y / 2)))
  | 6 => some (aluImm y b1)
  | _ => some (.rst (BitVec.ofNat 8 (8 * y)))

/-- The base table (R320): the first byte `op`, then the operand bytes `b1 b2`. -/
def decodeBase (op b1 b2 : Byte) : Option Instr :=
  match Bits.fieldX op with
  | 0 => some (decodeBase0 (Bits.fieldY op) (Bits.fieldZ op) b1 b2)
  | 1 => some (decodeBase1 (Bits.fieldY op) (Bits.fieldZ op))
  | 2 => some (decodeBase2 (Bits.fieldY op) (Bits.fieldZ op))
  | _ => decodeBase3 (Bits.fieldY op) (Bits.fieldZ op) b1 b2

/-- The CB table (R321): all 256 entries are instructions. -/
def decodeCB (op : Byte) : Instr :=
  match Bits.fieldX op, Reg8.ofCode (Bits.fieldZ op) with
  | 0, some r => rotReg (Bits.fieldY op) r
  | 0, none => rotAtHl (Bits.fieldY op)
  | 1, some r => .bitR (bitNumber (Bits.fieldY op)) r
  | 1, none => .bitAtHl (bitNumber (Bits.fieldY op))
  | 2, some r => .resR (bitNumber (Bits.fieldY op)) r
  | 2, none => .resAtHl (bitNumber (Bits.fieldY op))
  | _, some r => .setR (bitNumber (Bits.fieldY op)) r
  | _, none => .setAtHl (bitNumber (Bits.fieldY op))

/-- R322, rows 4 to 7: `ED 01yyyzzz`, with the operand bytes `b2 b3`. -/
def decodeED1 (y z : Nat) (b2 b3 : Byte) : Option Instr :=
  match z with
  | 0 => (Reg8.ofCode y).map .inRC
  | 1 => (Reg8.ofCode y).map .outCR
  | 2 => some (if y % 2 = 0 then .sbcHlRr (Rp.ofCode (y / 2)) else .adcHlRr (Rp.ofCode (y / 2)))
  | 3 =>
    some (if y % 2 = 0 then .ldAtNnRr (Bits.pair b3 b2) (Rp.ofCode (y / 2))
      else .ldRrAtNn (Rp.ofCode (y / 2)) (Bits.pair b3 b2))
  | 4 => if y = 0 then some .neg else none
  | 5 =>
    match y with
    | 0 => some .retn
    | 1 => some .reti
    | _ => none
  | 6 =>
    match y with
    | 0 => some .im0
    | 2 => some .im1
    | 3 => some .im2
    | _ => none
  | _ =>
    match y with
    | 0 => some .ldIA
    | 1 => some .ldRA
    | 2 => some .ldAI
    | 3 => some .ldAR
    | 4 => some .rrd
    | 5 => some .rld
    | _ => none

/-- R322, rows A and B: the block instructions, `ED 101yyzzz`. -/
def decodeED2 (y z : Nat) : Option Instr :=
  match y, z with
  | 4, 0 => some .ldi
  | 4, 1 => some .cpi
  | 4, 2 => some .ini
  | 4, 3 => some .outi
  | 5, 0 => some .ldd
  | 5, 1 => some .cpd
  | 5, 2 => some .ind
  | 5, 3 => some .outd
  | 6, 0 => some .ldir
  | 6, 1 => some .cpir
  | 6, 2 => some .inir
  | 6, 3 => some .otir
  | 7, 0 => some .lddr
  | 7, 1 => some .cpdr
  | 7, 2 => some .indr
  | 7, 3 => some .otdr
  | _, _ => none

/-- The ED table (R322): every absent entry is none (R330). -/
def decodeED (op b2 b3 : Byte) : Option Instr :=
  match Bits.fieldX op with
  | 1 => decodeED1 (Bits.fieldY op) (Bits.fieldZ op) b2 b3
  | 2 => decodeED2 (Bits.fieldY op) (Bits.fieldZ op)
  | _ => none

/-- The index table after 0xDD (R323): its 39 opcodes and no other. -/
def decodeIX (op b2 b3 : Byte) : Option Instr :=
  match Bits.fieldX op with
  | 0 =>
    match op.toNat with
    | 0x21 => some (.ldIxNn (Bits.pair b3 b2))
    | 0x22 => some (.ldAtNnIx (Bits.pair b3 b2))
    | 0x23 => some .incIx
    | 0x2A => some (.ldIxAtNn (Bits.pair b3 b2))
    | 0x2B => some .decIx
    | 0x34 => some (.incIxd b2)
    | 0x35 => some (.decIxd b2)
    | 0x36 => some (.ldIxdN b2 b3)
    | _ => if op.toNat % 16 = 9 then some (.addIxRr (RpX.ofCode (Bits.fieldP op))) else none
  | 1 =>
    match Reg8.ofCode (Bits.fieldY op), Reg8.ofCode (Bits.fieldZ op) with
    | some r, none => some (.ldRIxd r b2)
    | none, some r => some (.ldIxdR b2 r)
    | _, _ => none
  | 2 => if Bits.fieldZ op = 6 then some (aluIndexed .ix (Bits.fieldY op) b2) else none
  | _ =>
    match op.toNat with
    | 0xE1 => some .popIx
    | 0xE3 => some .exAtSpIx
    | 0xE5 => some .pushIx
    | 0xE9 => some .jpIx
    | 0xF9 => some .ldSpIx
    | _ => none

/-- The index table after 0xFD: "the same with IY" (R323). -/
def decodeIY (op b2 b3 : Byte) : Option Instr :=
  match Bits.fieldX op with
  | 0 =>
    match op.toNat with
    | 0x21 => some (.ldIyNn (Bits.pair b3 b2))
    | 0x22 => some (.ldAtNnIy (Bits.pair b3 b2))
    | 0x23 => some .incIy
    | 0x2A => some (.ldIyAtNn (Bits.pair b3 b2))
    | 0x2B => some .decIy
    | 0x34 => some (.incIyd b2)
    | 0x35 => some (.decIyd b2)
    | 0x36 => some (.ldIydN b2 b3)
    | _ => if op.toNat % 16 = 9 then some (.addIyRr (RpX.ofCode (Bits.fieldP op))) else none
  | 1 =>
    match Reg8.ofCode (Bits.fieldY op), Reg8.ofCode (Bits.fieldZ op) with
    | some r, none => some (.ldRIyd r b2)
    | none, some r => some (.ldIydR b2 r)
    | _, _ => none
  | 2 => if Bits.fieldZ op = 6 then some (aluIndexed .iy (Bits.fieldY op) b2) else none
  | _ =>
    match op.toNat with
    | 0xE1 => some .popIy
    | 0xE3 => some .exAtSpIy
    | 0xE5 => some .pushIy
    | 0xE9 => some .jpIy
    | 0xF9 => some .ldSpIy
    | _ => none

/-- `BIT`, `RES` or `SET` on `(XY+d)` by the field x of the index-CB opcode (R324). -/
def bitIndexed (xy : Index) (x : Nat) (b : Fin 8) (d : Byte) : Instr :=
  match xy with
  | .ix =>
    match x with
    | 1 => .bitIxd b d
    | 2 => .resIxd b d
    | _ => .setIxd b d
  | .iy =>
    match x with
    | 1 => .bitIyd b d
    | 2 => .resIyd b d
    | _ => .setIyd b d

/-- The index-CB table (R324): only opcodes with `z = 6` form instructions (R311). -/
def decodeIndexCB (xy : Index) (d op : Byte) : Option Instr :=
  if Bits.fieldZ op = 6 then
    match Bits.fieldX op with
    | 0 => some (rotIndexed xy (Bits.fieldY op) d)
    | x => some (bitIndexed xy x (bitNumber (Bits.fieldY op)) d)
  else none

/-! ## The decode of R302 -/

/-- Why four bytes decode to no admitted instruction; each names the table that has no entry (R302, R330). -/
inductive Reject where
  /-- The base table; it has an entry for each of the 252 non-prefix bytes, so no byte gives this (R320). -/
  | opcode (b0 : Byte)
  /-- The CB table; all its 256 entries are instructions, so no byte gives this (R321). -/
  | bitOpcode (b1 : Byte)
  /-- The ED table has no entry for `b1` (R322). -/
  | extendedOpcode (b1 : Byte)
  /-- The index table of the prefix has no entry for `b1` (R323). -/
  | indexedOpcode (prefixByte b1 : Byte)
  /-- The index-CB table has no entry for `op` (R324). -/
  | indexCBOpcode (prefixByte d op : Byte)
  /-- The form is not in `IMPLEMENTED_SET`; the bytes the decode fetched (R302, R11). -/
  | notInImplementedSet (bytes : List Byte)
deriving DecidableEq, Repr

/-- The bytes the decode fetched before it failed, which the fault record holds (R921). -/
def Reject.bytes : Reject → List Byte
  | .opcode b0 => [b0]
  | .bitOpcode b1 => [0xCB, b1]
  | .extendedOpcode b1 => [0xED, b1]
  | .indexedOpcode p b1 => [p, b1]
  | .indexCBOpcode p d op => [p, 0xCB, d, op]
  | .notInImplementedSet bs => bs

/-- A table's answer: an entry in `IMPLEMENTED_SET` is the instruction, another a reject (R302). -/
def admitted (entry : Option Instr) (reject : Reject) : Except Reject Instr :=
  match entry with
  | none => .error reject
  | some i => if Params.implemented i then .ok i else .error (.notInImplementedSet reject.bytes)

/-- After the prefix 0xDD or 0xFD (R302, R310). -/
def decodeIndexed (xy : Index) (prefixByte b1 b2 b3 : Byte) : Except Reject Instr :=
  if b1 = 0xCB then admitted (decodeIndexCB xy b2 b3) (.indexCBOpcode prefixByte b2 b3)
  else
    match xy with
    | .ix => admitted (decodeIX b1 b2 b3) (.indexedOpcode prefixByte b1)
    | .iy => admitted (decodeIY b1 b2 b3) (.indexedOpcode prefixByte b1)

/-- The decode of R302 on the four bytes at `pc` (an instruction has at most four, R300). Total; a byte the instruction
does not have is not looked at. -/
def decode (b0 b1 b2 b3 : Byte) : Except Reject Instr :=
  if b0 = 0xCB then admitted (some (decodeCB b1)) (.bitOpcode b1)
  else if b0 = 0xED then admitted (decodeED b1 b2 b3) (.extendedOpcode b1)
  else if b0 = 0xDD then decodeIndexed .ix b0 b1 b2 b3
  else if b0 = 0xFD then decodeIndexed .iy b0 b1 b2 b3
  else admitted (decodeBase b0 b1 b2) (.opcode b0)

/-- Decode the first instruction of a list of bytes, absent bytes read as 0 (only `decodeTableWord` and statements about
encodings use it; the machine decodes the four bytes at `pc`). -/
def decodeBytes (bs : List Byte) : Except Reject Instr :=
  decode (bs.getD 0 0) (bs.getD 1 0) (bs.getD 2 0) (bs.getD 3 0)

/-! ## Length and refresh count -/

/-- The number of bytes of an instruction (R304; `length` of opcode_table.json). -/
def Instr.length : Instr → Nat
  | .ldRR _ _ => 1
  | .ldRN _ _ => 2
  | .ldRAtHl _ => 1
  | .ldAtHlR _ => 1
  | .ldAtHlN _ => 2
  | .ldAAtBc => 1
  | .ldAAtDe => 1
  | .ldAAtNn _ => 3
  | .ldAtBcA => 1
  | .ldAtDeA => 1
  | .ldAtNnA _ => 3
  | .ldRIxd _ _ => 3
  | .ldRIyd _ _ => 3
  | .ldIxdR _ _ => 3
  | .ldIydR _ _ => 3
  | .ldIxdN _ _ => 4
  | .ldIydN _ _ => 4
  | .ldAI => 2
  | .ldAR => 2
  | .ldIA => 2
  | .ldRA => 2
  | .ldRrNn _ _ => 3
  | .ldIxNn _ => 4
  | .ldIyNn _ => 4
  | .ldHlAtNn _ => 3
  | .ldIxAtNn _ => 4
  | .ldIyAtNn _ => 4
  | .ldRrAtNn _ _ => 4
  | .ldAtNnHl _ => 3
  | .ldAtNnIx _ => 4
  | .ldAtNnIy _ => 4
  | .ldAtNnRr _ _ => 4
  | .ldSpHl => 1
  | .ldSpIx => 2
  | .ldSpIy => 2
  | .pushQq _ => 1
  | .pushIx => 2
  | .pushIy => 2
  | .popQq _ => 1
  | .popIx => 2
  | .popIy => 2
  | .exDeHl => 1
  | .exAfAf => 1
  | .exx => 1
  | .exAtSpHl => 1
  | .exAtSpIx => 2
  | .exAtSpIy => 2
  | .ldi => 2
  | .ldir => 2
  | .ldd => 2
  | .lddr => 2
  | .cpi => 2
  | .cpir => 2
  | .cpd => 2
  | .cpdr => 2
  | .addR _ => 1
  | .addAtHl => 1
  | .addN _ => 2
  | .addIxd _ => 3
  | .addIyd _ => 3
  | .adcR _ => 1
  | .adcAtHl => 1
  | .adcN _ => 2
  | .adcIxd _ => 3
  | .adcIyd _ => 3
  | .subR _ => 1
  | .subAtHl => 1
  | .subN _ => 2
  | .subIxd _ => 3
  | .subIyd _ => 3
  | .sbcR _ => 1
  | .sbcAtHl => 1
  | .sbcN _ => 2
  | .sbcIxd _ => 3
  | .sbcIyd _ => 3
  | .andR _ => 1
  | .andAtHl => 1
  | .andN _ => 2
  | .andIxd _ => 3
  | .andIyd _ => 3
  | .xorR _ => 1
  | .xorAtHl => 1
  | .xorN _ => 2
  | .xorIxd _ => 3
  | .xorIyd _ => 3
  | .orR _ => 1
  | .orAtHl => 1
  | .orN _ => 2
  | .orIxd _ => 3
  | .orIyd _ => 3
  | .cpR _ => 1
  | .cpAtHl => 1
  | .cpN _ => 2
  | .cpIxd _ => 3
  | .cpIyd _ => 3
  | .incR _ => 1
  | .incAtHl => 1
  | .incIxd _ => 3
  | .incIyd _ => 3
  | .decR _ => 1
  | .decAtHl => 1
  | .decIxd _ => 3
  | .decIyd _ => 3
  | .daa => 1
  | .cpl => 1
  | .neg => 2
  | .ccf => 1
  | .scf => 1
  | .addHlRr _ => 1
  | .addIxRr _ => 2
  | .addIyRr _ => 2
  | .adcHlRr _ => 2
  | .sbcHlRr _ => 2
  | .incRr _ => 1
  | .incIx => 2
  | .incIy => 2
  | .decRr _ => 1
  | .decIx => 2
  | .decIy => 2
  | .rlca => 1
  | .rrca => 1
  | .rla => 1
  | .rra => 1
  | .rlcR _ => 2
  | .rlcAtHl => 2
  | .rlcIxd _ => 4
  | .rlcIyd _ => 4
  | .rrcR _ => 2
  | .rrcAtHl => 2
  | .rrcIxd _ => 4
  | .rrcIyd _ => 4
  | .rlR _ => 2
  | .rlAtHl => 2
  | .rlIxd _ => 4
  | .rlIyd _ => 4
  | .rrR _ => 2
  | .rrAtHl => 2
  | .rrIxd _ => 4
  | .rrIyd _ => 4
  | .slaR _ => 2
  | .slaAtHl => 2
  | .slaIxd _ => 4
  | .slaIyd _ => 4
  | .sraR _ => 2
  | .sraAtHl => 2
  | .sraIxd _ => 4
  | .sraIyd _ => 4
  | .sllR _ => 2
  | .sllAtHl => 2
  | .sllIxd _ => 4
  | .sllIyd _ => 4
  | .srlR _ => 2
  | .srlAtHl => 2
  | .srlIxd _ => 4
  | .srlIyd _ => 4
  | .bitR _ _ => 2
  | .bitAtHl _ => 2
  | .bitIxd _ _ => 4
  | .bitIyd _ _ => 4
  | .resR _ _ => 2
  | .resAtHl _ => 2
  | .resIxd _ _ => 4
  | .resIyd _ _ => 4
  | .setR _ _ => 2
  | .setAtHl _ => 2
  | .setIxd _ _ => 4
  | .setIyd _ _ => 4
  | .rld => 2
  | .rrd => 2
  | .jpNn _ => 3
  | .jpCcNn _ _ => 3
  | .jrE _ => 2
  | .jrCcE _ _ => 2
  | .djnzE _ => 2
  | .jpHl => 1
  | .jpIx => 2
  | .jpIy => 2
  | .callNn _ => 3
  | .callCcNn _ _ => 3
  | .ret => 1
  | .retCc _ => 1
  | .reti => 2
  | .retn => 2
  | .rst _ => 1
  | .inAN _ => 2
  | .inRC _ => 2
  | .outNA _ => 2
  | .outCR _ => 2
  | .ini => 2
  | .inir => 2
  | .ind => 2
  | .indr => 2
  | .outi => 2
  | .otir => 2
  | .outd => 2
  | .otdr => 2
  | .nop => 1
  | .halt => 1
  | .di => 1
  | .ei => 1
  | .im0 => 2
  | .im1 => 2
  | .im2 => 2

/-- How many opcode-fetch bytes refresh R: one unprefixed, two prefixed, the index-CB forms included (R303). -/
def Instr.refreshes : Instr → Nat
  | .ldRR _ _ => 1
  | .ldRN _ _ => 1
  | .ldRAtHl _ => 1
  | .ldAtHlR _ => 1
  | .ldAtHlN _ => 1
  | .ldAAtBc => 1
  | .ldAAtDe => 1
  | .ldAAtNn _ => 1
  | .ldAtBcA => 1
  | .ldAtDeA => 1
  | .ldAtNnA _ => 1
  | .ldRIxd _ _ => 2
  | .ldRIyd _ _ => 2
  | .ldIxdR _ _ => 2
  | .ldIydR _ _ => 2
  | .ldIxdN _ _ => 2
  | .ldIydN _ _ => 2
  | .ldAI => 2
  | .ldAR => 2
  | .ldIA => 2
  | .ldRA => 2
  | .ldRrNn _ _ => 1
  | .ldIxNn _ => 2
  | .ldIyNn _ => 2
  | .ldHlAtNn _ => 1
  | .ldIxAtNn _ => 2
  | .ldIyAtNn _ => 2
  | .ldRrAtNn _ _ => 2
  | .ldAtNnHl _ => 1
  | .ldAtNnIx _ => 2
  | .ldAtNnIy _ => 2
  | .ldAtNnRr _ _ => 2
  | .ldSpHl => 1
  | .ldSpIx => 2
  | .ldSpIy => 2
  | .pushQq _ => 1
  | .pushIx => 2
  | .pushIy => 2
  | .popQq _ => 1
  | .popIx => 2
  | .popIy => 2
  | .exDeHl => 1
  | .exAfAf => 1
  | .exx => 1
  | .exAtSpHl => 1
  | .exAtSpIx => 2
  | .exAtSpIy => 2
  | .ldi => 2
  | .ldir => 2
  | .ldd => 2
  | .lddr => 2
  | .cpi => 2
  | .cpir => 2
  | .cpd => 2
  | .cpdr => 2
  | .addR _ => 1
  | .addAtHl => 1
  | .addN _ => 1
  | .addIxd _ => 2
  | .addIyd _ => 2
  | .adcR _ => 1
  | .adcAtHl => 1
  | .adcN _ => 1
  | .adcIxd _ => 2
  | .adcIyd _ => 2
  | .subR _ => 1
  | .subAtHl => 1
  | .subN _ => 1
  | .subIxd _ => 2
  | .subIyd _ => 2
  | .sbcR _ => 1
  | .sbcAtHl => 1
  | .sbcN _ => 1
  | .sbcIxd _ => 2
  | .sbcIyd _ => 2
  | .andR _ => 1
  | .andAtHl => 1
  | .andN _ => 1
  | .andIxd _ => 2
  | .andIyd _ => 2
  | .xorR _ => 1
  | .xorAtHl => 1
  | .xorN _ => 1
  | .xorIxd _ => 2
  | .xorIyd _ => 2
  | .orR _ => 1
  | .orAtHl => 1
  | .orN _ => 1
  | .orIxd _ => 2
  | .orIyd _ => 2
  | .cpR _ => 1
  | .cpAtHl => 1
  | .cpN _ => 1
  | .cpIxd _ => 2
  | .cpIyd _ => 2
  | .incR _ => 1
  | .incAtHl => 1
  | .incIxd _ => 2
  | .incIyd _ => 2
  | .decR _ => 1
  | .decAtHl => 1
  | .decIxd _ => 2
  | .decIyd _ => 2
  | .daa => 1
  | .cpl => 1
  | .neg => 2
  | .ccf => 1
  | .scf => 1
  | .addHlRr _ => 1
  | .addIxRr _ => 2
  | .addIyRr _ => 2
  | .adcHlRr _ => 2
  | .sbcHlRr _ => 2
  | .incRr _ => 1
  | .incIx => 2
  | .incIy => 2
  | .decRr _ => 1
  | .decIx => 2
  | .decIy => 2
  | .rlca => 1
  | .rrca => 1
  | .rla => 1
  | .rra => 1
  | .rlcR _ => 2
  | .rlcAtHl => 2
  | .rlcIxd _ => 2
  | .rlcIyd _ => 2
  | .rrcR _ => 2
  | .rrcAtHl => 2
  | .rrcIxd _ => 2
  | .rrcIyd _ => 2
  | .rlR _ => 2
  | .rlAtHl => 2
  | .rlIxd _ => 2
  | .rlIyd _ => 2
  | .rrR _ => 2
  | .rrAtHl => 2
  | .rrIxd _ => 2
  | .rrIyd _ => 2
  | .slaR _ => 2
  | .slaAtHl => 2
  | .slaIxd _ => 2
  | .slaIyd _ => 2
  | .sraR _ => 2
  | .sraAtHl => 2
  | .sraIxd _ => 2
  | .sraIyd _ => 2
  | .sllR _ => 2
  | .sllAtHl => 2
  | .sllIxd _ => 2
  | .sllIyd _ => 2
  | .srlR _ => 2
  | .srlAtHl => 2
  | .srlIxd _ => 2
  | .srlIyd _ => 2
  | .bitR _ _ => 2
  | .bitAtHl _ => 2
  | .bitIxd _ _ => 2
  | .bitIyd _ _ => 2
  | .resR _ _ => 2
  | .resAtHl _ => 2
  | .resIxd _ _ => 2
  | .resIyd _ _ => 2
  | .setR _ _ => 2
  | .setAtHl _ => 2
  | .setIxd _ _ => 2
  | .setIyd _ _ => 2
  | .rld => 2
  | .rrd => 2
  | .jpNn _ => 1
  | .jpCcNn _ _ => 1
  | .jrE _ => 1
  | .jrCcE _ _ => 1
  | .djnzE _ => 1
  | .jpHl => 1
  | .jpIx => 2
  | .jpIy => 2
  | .callNn _ => 1
  | .callCcNn _ _ => 1
  | .ret => 1
  | .retCc _ => 1
  | .reti => 2
  | .retn => 2
  | .rst _ => 1
  | .inAN _ => 1
  | .inRC _ => 2
  | .outNA _ => 1
  | .outCR _ => 2
  | .ini => 2
  | .inir => 2
  | .ind => 2
  | .indr => 2
  | .outi => 2
  | .otir => 2
  | .outd => 2
  | .otdr => 2
  | .nop => 1
  | .halt => 1
  | .di => 1
  | .ei => 1
  | .im0 => 2
  | .im1 => 2
  | .im2 => 2

/-! ## The encoder -/

/-- The bytes of an instruction as fetched, from the `encoding` patterns of opcode_table.json (R300). -/
def encode : Instr → List Byte
  | .ldRR r r' => [Bits.opcode 1 r.code r'.code]
  | .ldRN r n => [Bits.opcode 0 r.code 6, n]
  | .ldRAtHl r => [Bits.opcode 1 r.code 6]
  | .ldAtHlR r => [Bits.opcode 1 6 r.code]
  | .ldAtHlN n => [0x36, n]
  | .ldAAtBc => [0x0A]
  | .ldAAtDe => [0x1A]
  | .ldAAtNn nn => [0x3A, Bits.lo nn, Bits.hi nn]
  | .ldAtBcA => [0x02]
  | .ldAtDeA => [0x12]
  | .ldAtNnA nn => [0x32, Bits.lo nn, Bits.hi nn]
  | .ldRIxd r d => [0xDD, Bits.opcode 1 r.code 6, d]
  | .ldRIyd r d => [0xFD, Bits.opcode 1 r.code 6, d]
  | .ldIxdR d r => [0xDD, Bits.opcode 1 6 r.code, d]
  | .ldIydR d r => [0xFD, Bits.opcode 1 6 r.code, d]
  | .ldIxdN d n => [0xDD, 0x36, d, n]
  | .ldIydN d n => [0xFD, 0x36, d, n]
  | .ldAI => [0xED, 0x57]
  | .ldAR => [0xED, 0x5F]
  | .ldIA => [0xED, 0x47]
  | .ldRA => [0xED, 0x4F]
  | .ldRrNn rr nn => [Bits.opcode 0 (2 * rr.code) 1, Bits.lo nn, Bits.hi nn]
  | .ldIxNn nn => [0xDD, 0x21, Bits.lo nn, Bits.hi nn]
  | .ldIyNn nn => [0xFD, 0x21, Bits.lo nn, Bits.hi nn]
  | .ldHlAtNn nn => [0x2A, Bits.lo nn, Bits.hi nn]
  | .ldIxAtNn nn => [0xDD, 0x2A, Bits.lo nn, Bits.hi nn]
  | .ldIyAtNn nn => [0xFD, 0x2A, Bits.lo nn, Bits.hi nn]
  | .ldRrAtNn rr nn => [0xED, Bits.opcode 1 (2 * rr.code + 1) 3, Bits.lo nn, Bits.hi nn]
  | .ldAtNnHl nn => [0x22, Bits.lo nn, Bits.hi nn]
  | .ldAtNnIx nn => [0xDD, 0x22, Bits.lo nn, Bits.hi nn]
  | .ldAtNnIy nn => [0xFD, 0x22, Bits.lo nn, Bits.hi nn]
  | .ldAtNnRr nn rr => [0xED, Bits.opcode 1 (2 * rr.code) 3, Bits.lo nn, Bits.hi nn]
  | .ldSpHl => [0xF9]
  | .ldSpIx => [0xDD, 0xF9]
  | .ldSpIy => [0xFD, 0xF9]
  | .pushQq qq => [Bits.opcode 3 (2 * qq.code) 5]
  | .pushIx => [0xDD, 0xE5]
  | .pushIy => [0xFD, 0xE5]
  | .popQq qq => [Bits.opcode 3 (2 * qq.code) 1]
  | .popIx => [0xDD, 0xE1]
  | .popIy => [0xFD, 0xE1]
  | .exDeHl => [0xEB]
  | .exAfAf => [0x08]
  | .exx => [0xD9]
  | .exAtSpHl => [0xE3]
  | .exAtSpIx => [0xDD, 0xE3]
  | .exAtSpIy => [0xFD, 0xE3]
  | .ldi => [0xED, 0xA0]
  | .ldir => [0xED, 0xB0]
  | .ldd => [0xED, 0xA8]
  | .lddr => [0xED, 0xB8]
  | .cpi => [0xED, 0xA1]
  | .cpir => [0xED, 0xB1]
  | .cpd => [0xED, 0xA9]
  | .cpdr => [0xED, 0xB9]
  | .addR r => [Bits.opcode 2 0 r.code]
  | .addAtHl => [0x86]
  | .addN n => [0xC6, n]
  | .addIxd d => [0xDD, 0x86, d]
  | .addIyd d => [0xFD, 0x86, d]
  | .adcR r => [Bits.opcode 2 1 r.code]
  | .adcAtHl => [0x8E]
  | .adcN n => [0xCE, n]
  | .adcIxd d => [0xDD, 0x8E, d]
  | .adcIyd d => [0xFD, 0x8E, d]
  | .subR r => [Bits.opcode 2 2 r.code]
  | .subAtHl => [0x96]
  | .subN n => [0xD6, n]
  | .subIxd d => [0xDD, 0x96, d]
  | .subIyd d => [0xFD, 0x96, d]
  | .sbcR r => [Bits.opcode 2 3 r.code]
  | .sbcAtHl => [0x9E]
  | .sbcN n => [0xDE, n]
  | .sbcIxd d => [0xDD, 0x9E, d]
  | .sbcIyd d => [0xFD, 0x9E, d]
  | .andR r => [Bits.opcode 2 4 r.code]
  | .andAtHl => [0xA6]
  | .andN n => [0xE6, n]
  | .andIxd d => [0xDD, 0xA6, d]
  | .andIyd d => [0xFD, 0xA6, d]
  | .xorR r => [Bits.opcode 2 5 r.code]
  | .xorAtHl => [0xAE]
  | .xorN n => [0xEE, n]
  | .xorIxd d => [0xDD, 0xAE, d]
  | .xorIyd d => [0xFD, 0xAE, d]
  | .orR r => [Bits.opcode 2 6 r.code]
  | .orAtHl => [0xB6]
  | .orN n => [0xF6, n]
  | .orIxd d => [0xDD, 0xB6, d]
  | .orIyd d => [0xFD, 0xB6, d]
  | .cpR r => [Bits.opcode 2 7 r.code]
  | .cpAtHl => [0xBE]
  | .cpN n => [0xFE, n]
  | .cpIxd d => [0xDD, 0xBE, d]
  | .cpIyd d => [0xFD, 0xBE, d]
  | .incR r => [Bits.opcode 0 r.code 4]
  | .incAtHl => [0x34]
  | .incIxd d => [0xDD, 0x34, d]
  | .incIyd d => [0xFD, 0x34, d]
  | .decR r => [Bits.opcode 0 r.code 5]
  | .decAtHl => [0x35]
  | .decIxd d => [0xDD, 0x35, d]
  | .decIyd d => [0xFD, 0x35, d]
  | .daa => [0x27]
  | .cpl => [0x2F]
  | .neg => [0xED, 0x44]
  | .ccf => [0x3F]
  | .scf => [0x37]
  | .addHlRr rr => [Bits.opcode 0 (2 * rr.code + 1) 1]
  | .addIxRr rr => [0xDD, Bits.opcode 0 (2 * rr.code + 1) 1]
  | .addIyRr rr => [0xFD, Bits.opcode 0 (2 * rr.code + 1) 1]
  | .adcHlRr rr => [0xED, Bits.opcode 1 (2 * rr.code + 1) 2]
  | .sbcHlRr rr => [0xED, Bits.opcode 1 (2 * rr.code) 2]
  | .incRr rr => [Bits.opcode 0 (2 * rr.code) 3]
  | .incIx => [0xDD, 0x23]
  | .incIy => [0xFD, 0x23]
  | .decRr rr => [Bits.opcode 0 (2 * rr.code + 1) 3]
  | .decIx => [0xDD, 0x2B]
  | .decIy => [0xFD, 0x2B]
  | .rlca => [0x07]
  | .rrca => [0x0F]
  | .rla => [0x17]
  | .rra => [0x1F]
  | .rlcR r => [0xCB, Bits.opcode 0 0 r.code]
  | .rlcAtHl => [0xCB, 0x06]
  | .rlcIxd d => [0xDD, 0xCB, d, 0x06]
  | .rlcIyd d => [0xFD, 0xCB, d, 0x06]
  | .rrcR r => [0xCB, Bits.opcode 0 1 r.code]
  | .rrcAtHl => [0xCB, 0x0E]
  | .rrcIxd d => [0xDD, 0xCB, d, 0x0E]
  | .rrcIyd d => [0xFD, 0xCB, d, 0x0E]
  | .rlR r => [0xCB, Bits.opcode 0 2 r.code]
  | .rlAtHl => [0xCB, 0x16]
  | .rlIxd d => [0xDD, 0xCB, d, 0x16]
  | .rlIyd d => [0xFD, 0xCB, d, 0x16]
  | .rrR r => [0xCB, Bits.opcode 0 3 r.code]
  | .rrAtHl => [0xCB, 0x1E]
  | .rrIxd d => [0xDD, 0xCB, d, 0x1E]
  | .rrIyd d => [0xFD, 0xCB, d, 0x1E]
  | .slaR r => [0xCB, Bits.opcode 0 4 r.code]
  | .slaAtHl => [0xCB, 0x26]
  | .slaIxd d => [0xDD, 0xCB, d, 0x26]
  | .slaIyd d => [0xFD, 0xCB, d, 0x26]
  | .sraR r => [0xCB, Bits.opcode 0 5 r.code]
  | .sraAtHl => [0xCB, 0x2E]
  | .sraIxd d => [0xDD, 0xCB, d, 0x2E]
  | .sraIyd d => [0xFD, 0xCB, d, 0x2E]
  | .sllR r => [0xCB, Bits.opcode 0 6 r.code]
  | .sllAtHl => [0xCB, 0x36]
  | .sllIxd d => [0xDD, 0xCB, d, 0x36]
  | .sllIyd d => [0xFD, 0xCB, d, 0x36]
  | .srlR r => [0xCB, Bits.opcode 0 7 r.code]
  | .srlAtHl => [0xCB, 0x3E]
  | .srlIxd d => [0xDD, 0xCB, d, 0x3E]
  | .srlIyd d => [0xFD, 0xCB, d, 0x3E]
  | .bitR b r => [0xCB, Bits.opcode 1 b.val r.code]
  | .bitAtHl b => [0xCB, Bits.opcode 1 b.val 6]
  | .bitIxd b d => [0xDD, 0xCB, d, Bits.opcode 1 b.val 6]
  | .bitIyd b d => [0xFD, 0xCB, d, Bits.opcode 1 b.val 6]
  | .resR b r => [0xCB, Bits.opcode 2 b.val r.code]
  | .resAtHl b => [0xCB, Bits.opcode 2 b.val 6]
  | .resIxd b d => [0xDD, 0xCB, d, Bits.opcode 2 b.val 6]
  | .resIyd b d => [0xFD, 0xCB, d, Bits.opcode 2 b.val 6]
  | .setR b r => [0xCB, Bits.opcode 3 b.val r.code]
  | .setAtHl b => [0xCB, Bits.opcode 3 b.val 6]
  | .setIxd b d => [0xDD, 0xCB, d, Bits.opcode 3 b.val 6]
  | .setIyd b d => [0xFD, 0xCB, d, Bits.opcode 3 b.val 6]
  | .rld => [0xED, 0x6F]
  | .rrd => [0xED, 0x67]
  | .jpNn nn => [0xC3, Bits.lo nn, Bits.hi nn]
  | .jpCcNn cc nn => [Bits.opcode 3 cc.code 2, Bits.lo nn, Bits.hi nn]
  | .jrE e => [0x18, e]
  | .jrCcE cc e => [Bits.opcode 0 (4 + cc.code) 0, e]
  | .djnzE e => [0x10, e]
  | .jpHl => [0xE9]
  | .jpIx => [0xDD, 0xE9]
  | .jpIy => [0xFD, 0xE9]
  | .callNn nn => [0xCD, Bits.lo nn, Bits.hi nn]
  | .callCcNn cc nn => [Bits.opcode 3 cc.code 4, Bits.lo nn, Bits.hi nn]
  | .ret => [0xC9]
  | .retCc cc => [Bits.opcode 3 cc.code 0]
  | .reti => [0xED, 0x4D]
  | .retn => [0xED, 0x45]
  | .rst p => [0xC7 ||| p]
  | .inAN n => [0xDB, n]
  | .inRC r => [0xED, Bits.opcode 1 r.code 0]
  | .outNA n => [0xD3, n]
  | .outCR r => [0xED, Bits.opcode 1 r.code 1]
  | .ini => [0xED, 0xA2]
  | .inir => [0xED, 0xB2]
  | .ind => [0xED, 0xAA]
  | .indr => [0xED, 0xBA]
  | .outi => [0xED, 0xA3]
  | .otir => [0xED, 0xB3]
  | .outd => [0xED, 0xAB]
  | .otdr => [0xED, 0xBB]
  | .nop => [0x00]
  | .halt => [0x76]
  | .di => [0xF3]
  | .ei => [0xFB]
  | .im0 => [0xED, 0x46]
  | .im1 => [0xED, 0x56]
  | .im2 => [0xED, 0x5E]

/-! ## The opcode table's numbering of an instruction's bits -/

/-- The bytes of a table word: opcode_table.json reads an instruction's bytes as one number whose FIRST byte is the most
significant (`RLC (IX+d)` has match 0xDDCB0006), so the byte at index k of an instruction of `count` bytes is bits
`8*(count-1-k)+7 .. 8*(count-1-k)` (log 5). -/
def tableBytes (count w : Nat) : List Byte :=
  (List.range count).map fun k => BitVec.ofNat 8 (w / 2 ^ (8 * (count - 1 - k)))

/-- The instruction the decoder reads from an instruction whose bits are `w`, numbered as opcode_table.json numbers them;
bytes past `nbits` are 0. -/
def decodeTableWord (nbits w : Nat) : Option Instr :=
  match decodeBytes (tableBytes (nbits / 8) w) with
  | .ok i => some i
  | .error _ => none

end Sys2Proof
end

