-- ==== Sys2Proof/Machine/State.lean ====
section
/-! DEFINITION. The machine's state: every element of 10_state.md, plain data, and the state right after reset. Also the
reasons a step can stop. -/

namespace Sys2Proof.Machine

/-- The names of the eight registers of one bank (10_state.md R100). -/
inductive RegName where
  | a | f | b | c | d | e | h | l
deriving DecidableEq, Repr

/-- One physical bank: "{A, F, B, C, D, E, H, L}" (R100). -/
structure Bank where
  a : Byte
  f : Byte
  b : Byte
  c : Byte
  d : Byte
  e : Byte
  h : Byte
  l : Byte
deriving DecidableEq, Repr

/-- The interrupt-mode selector; "The value 3 is never stored" (R117). -/
inductive IntMode where
  | im0 | im1 | im2
deriving DecidableEq, Repr

/-- The controller data format (R133). -/
inductive JoyMode where
  | a | b
deriving DecidableEq, Repr

/-- The fault record's kind and info (60_exceptions.md R920 to R922). -/
inductive FaultRecord where
  /-- Code 1: an encoding outside the admitted set; the address of its first byte and the bytes the decode fetched (R921). -/
  | unimplementedOpcode (address : Word) (bytes : List Byte)
  /-- Code 2: a maskable interrupt accepted in mode 0 or 2; the mode and `pc` (R912). -/
  | unsupportedInterruptMode (mode : IntMode) (pc : Word)
deriving DecidableEq, Repr

/-- An entry of `events` (R134). -/
inductive Event where
  /-- A sound-register write, forwarded verbatim (48_vdp.md R872). -/
  | sound (v : Byte)
  /-- `Log(VdpRange, address)`: a renderer address at or above 0x4000 (R849, R926). -/
  | vdpRange (address : Nat)
deriving DecidableEq, Repr

/-- The VDP's eight control registers (R122). -/
structure VdpRegs where
  r0 : Byte
  r1 : Byte
  r2 : Byte
  r3 : Byte
  r4 : Byte
  r5 : Byte
  r6 : Byte
  r7 : Byte
deriving DecidableEq, Repr

/-- The VDP's state (10_state.md section 5). `vram` and `fb` are cell lists in the canonical form of Memory.lean. -/
structure Vdp where
  /-- `VR[0..7]` (R122). -/
  vr : VdpRegs
  /-- `VS` (R124). -/
  status : Byte
  /-- The 14-bit pending address (R125). -/
  vaddr : BitVec 14
  /-- The control-port latch: false = the next control byte is the first (R126). -/
  latch : Bool
  /-- The read-ahead buffer (R127). -/
  readAhead : Byte
  /-- `VRAM[0..16383]` (R128). -/
  vram : List Host.Cell
  /-- The scanline counter, 0..261 (R129). -/
  line : Nat
  /-- Sprite coincidence since the last vblank line (R130). -/
  collisionAcc : Bool
  /-- The frame buffer's bytes (R131). -/
  fb : List Host.Cell
  /-- The sticky flag of an active line in a mode with no renderer (R132). -/
  modeFault : Bool
deriving DecidableEq, Repr

/-- `JOY_RAW[ctrl][mode]`, 7 bits each, 1 = pressed (00_scope.md R12, 48_vdp.md R870). -/
structure JoyRaw where
  c0a : BitVec 7
  c0b : BitVec 7
  c1a : BitVec 7
  c1b : BitVec 7
deriving DecidableEq, Repr

/-- The levels the host drives (R12). -/
structure HostInputs where
  /-- `INT`, the maskable-interrupt request level (R903). -/
  int : Bool
  joy : JoyRaw
deriving DecidableEq, Repr

/-- The whole machine (10_state.md), with the host's inputs of the step (R12; log 1) and the T-state count the last step
returned (R900, R901; log 3). -/
structure State where
  /-- `bank[0]` (R100). -/
  bank0 : Bank
  /-- `bank[1]` (R100). -/
  bank1 : Bank
  /-- Chooses the bank of A and F; false = bank 0 (R101). -/
  afSel : Bool
  /-- Chooses the bank of B, C, D, E, H, L; false = bank 0 (R101). -/
  mainSel : Bool
  /-- IX (R106). -/
  ix : Word
  /-- IY (R106). -/
  iy : Word
  /-- SP (R107). -/
  sp : Word
  /-- The program counter (R108). -/
  pc : Word
  /-- I, the "interrupt vector byte" (R114). -/
  iReg : Byte
  /-- R, the "memory-refresh byte" (R115). -/
  rReg : Byte
  /-- "the primary interrupt-enable flip-flop" (R116). -/
  iff1 : Bool
  /-- What `RETN` and `RETI` restore IFF1 from (R116). -/
  iff2 : Bool
  /-- Named by the source, with no function (R116). -/
  iff3 : Bool
  /-- IM (R117). -/
  im : IntMode
  /-- Set by `HALT` (R118). -/
  halted : Bool
  /-- The VDP's NMI request (R119). -/
  nmiPending : Bool
  /-- The sticky fault record (R120). -/
  fault : Option FaultRecord
  /-- T-states left before the next VDP tick (R121). -/
  periodCounter : Int
  /-- The VDP (R122 to R132). -/
  vdp : Vdp
  /-- The controller data format (R133). -/
  joyMode : JoyMode
  /-- What the CORE emits, oldest first (R134). -/
  events : List Event
  /-- `M[0..65535]` (R136), a cell list in the canonical form of Memory.lean. -/
  mem : List Host.Cell
  /-- The levels the host drives at the next step (R12; log 1). -/
  host : HostInputs
  /-- The levels the host will drive at the steps after it (R943; log 1). -/
  hostPlan : List HostInputs
  /-- The cost the last step returned (R900, R901; log 3). -/
  cost : Nat
deriving DecidableEq, Repr

/-- Why the machine stops. -/
inductive Fault where
  /-- Raised by `step` alone, in a state whose `fault` is set: "every `step()` and `systemStep()` returns `Stopped` and
  changes nothing" (R920). Safe: the spec gives exactly this stop. -/
  | stopped (record : FaultRecord)
deriving DecidableEq, Repr

/-- Why the model answers nothing. -/
inductive Refusal where
  /-- Raised by an arm of `exec` whose instruction has no meaning yet; no arm does. Safe: nothing is claimed of it. -/
  | notModelled (mnemonic : String)
deriving DecidableEq, Repr

/-- What a meaning and a step answer. -/
abbrev Result := Host.Outcome State Fault Refusal

/-- A bank at reset: every register 0x00 (R100, R1000). -/
def Bank.zero : Bank := ⟨0, 0, 0, 0, 0, 0, 0, 0⟩

/-- The VDP at reset (R1000, R1003), its frame buffer as at construction (R1004; log 9). -/
def Vdp.reset : Vdp where
  vr := ⟨0, 0, 0, 0, 0, 0, 0, 0⟩
  status := 0
  vaddr := 0
  latch := false
  readAhead := 0
  vram := []
  line := 0
  collisionAcc := false
  fb := []
  modeFault := false

/-- The host's levels in `State.reset`: `INT` = 0 (D5), no control pressed (log 2). -/
def HostInputs.idle : HostInputs := ⟨false, ⟨0, 0, 0, 0⟩⟩

/-- The machine right after construction with empty images and reset (70_reset_and_hazards.md R1000, R1003, R1004; log 9). -/
def State.reset : State where
  bank0 := Bank.zero
  bank1 := Bank.zero
  afSel := false
  mainSel := false
  ix := 0
  iy := 0
  sp := 0
  pc := 0
  iReg := 0
  rReg := 0
  iff1 := false
  iff2 := false
  iff3 := false
  im := .im0
  halted := false
  nmiPending := false
  fault := none
  periodCounter := Params.linePeriod
  vdp := Vdp.reset
  joyMode := .a
  events := []
  mem := []
  host := HostInputs.idle
  hostPlan := []
  cost := 0

end Sys2Proof.Machine
end

