-- ==== Sys2Proof/Machine/Flags.lean ====
section
/-! DEFINITION. The flag byte (10_state.md R110) and every flag computation of the spec: `add8`, `sub8`, `logicFlags`
(43_alu8.md R540 to R542), INC, DEC and DAA (R552 to R554), the 16-bit additions (44_alu16.md R600 to R603), `shuffle`
and `shiftFlags` (45_rotate_bit.md R640, R641), BIT (R654), the block transfer and search flags (42_exchange_block.md
R505, R509), `blockIOFlags` (47_io_cpu_control.md R752) and the conditions (46_control.md R695). -/

namespace Sys2Proof.Machine

/-- The eight flags by name, bit 7 first (R110). -/
structure Flags where
  s : Bool
  z : Bool
  f5 : Bool
  h : Bool
  f3 : Bool
  pv : Bool
  n : Bool
  c : Bool
deriving DecidableEq, Repr

/-- The flag byte: S Z 5 H 3 PV N C from bit 7 to bit 0 (R110). -/
def Flags.toByte (fl : Flags) : Byte :=
  BitVec.ofNat 8 (128 * fl.s.toNat + 64 * fl.z.toNat + 32 * fl.f5.toNat + 16 * fl.h.toNat + 8 * fl.f3.toNat
    + 4 * fl.pv.toNat + 2 * fl.n.toNat + fl.c.toNat)

/-- The flags of a flag byte (R110). -/
def Flags.ofByte (v : Byte) : Flags :=
  ⟨v.getLsbD 7, v.getLsbD 6, v.getLsbD 5, v.getLsbD 4, v.getLsbD 3, v.getLsbD 2, v.getLsbD 1, v.getLsbD 0⟩

/-! ## 8-bit arithmetic and logic -/

/-- `add8(a, b, c)`: the result and its flags (R540). -/
def add8 (a b : Byte) (c : Bool) : Byte × Flags :=
  let t := a.toNat + b.toNat + c.toNat
  let res := BitVec.ofNat 8 t
  (res,
   { s := res.getLsbD 7
     z := res == 0
     f5 := res.getLsbD 5
     h := decide (Bits.lowNibble a + Bits.lowNibble b + c.toNat > 0xF)
     f3 := res.getLsbD 3
     pv := a.getLsbD 7 == b.getLsbD 7 && res.getLsbD 7 != a.getLsbD 7
     n := false
     c := decide (t > 0xFF) })

/-- `sub8(a, b, c)`: the result and its flags (R541). -/
def sub8 (a b : Byte) (c : Bool) : Byte × Flags :=
  let t : Int := (a.toNat : Int) - b.toNat - c.toNat
  let res := BitVec.ofInt 8 t
  (res,
   { s := res.getLsbD 7
     z := res == 0
     f5 := res.getLsbD 5
     h := decide ((Bits.lowNibble a : Int) - Bits.lowNibble b - c.toNat < 0)
     f3 := res.getLsbD 3
     pv := a.getLsbD 7 != b.getLsbD 7 && res.getLsbD 7 != a.getLsbD 7
     n := true
     c := decide (t < 0) })

/-- `logicFlags(res, h)` (R542). -/
def logicFlags (res : Byte) (h : Bool) : Flags where
  s := res.getLsbD 7
  z := res == 0
  f5 := res.getLsbD 5
  h := h
  f3 := res.getLsbD 3
  pv := Bits.parity res
  n := false
  c := false

/-- `INC m`: the result and the flags, C kept (R552). -/
def inc8 (v : Byte) (old : Flags) : Byte × Flags :=
  let res := BitVec.ofNat 8 (v.toNat + 1)
  (res,
   { s := res.getLsbD 7
     z := res == 0
     f5 := res.getLsbD 5
     h := Bits.lowNibble v == 0xF
     f3 := res.getLsbD 3
     pv := v == 0x7F
     n := false
     c := old.c })

/-- `DEC m`: the result and the flags, C kept (R553). -/
def dec8 (v : Byte) (old : Flags) : Byte × Flags :=
  let res := BitVec.ofInt 8 ((v.toNat : Int) - 1)
  (res,
   { s := res.getLsbD 7
     z := res == 0
     f5 := res.getLsbD 5
     h := Bits.lowNibble v == 0x0
     f3 := res.getLsbD 3
     pv := v == 0x80
     n := true
     c := old.c })

/-- `DAA`: the corrected A and the flags, N kept (R554). -/
def daa8 (a : Byte) (old : Flags) : Byte × Flags :=
  let low : Nat := if old.h || decide (Bits.lowNibble a > 9) then 0x06 else 0
  let high : Nat := if old.c || decide (a.toNat > 0x99) then 0x60 else 0
  let corr := low ||| high
  let c := old.c || decide (a.toNat > 0x99)
  let res := if old.n then BitVec.ofInt 8 ((a.toNat : Int) - corr) else BitVec.ofNat 8 (a.toNat + corr)
  let h := if old.n then old.h && decide (Bits.lowNibble a < 6) else decide (Bits.lowNibble a > 9)
  (res,
   { s := res.getLsbD 7
     z := res == 0
     f5 := res.getLsbD 5
     h := h
     f3 := res.getLsbD 3
     pv := Bits.parity res
     n := old.n
     c := c })

/-- `CPL`: H and N set, 5 and 3 from the new A (R555). -/
def cplFlags (res : Byte) (old : Flags) : Flags :=
  { old with h := true, n := true, f5 := res.getLsbD 5, f3 := res.getLsbD 3 }

/-- `CCF`: H takes the old C, C is inverted, 5 and 3 from A (R557). -/
def ccfFlags (a : Byte) (old : Flags) : Flags :=
  { old with h := old.c, c := !old.c, n := false, f5 := a.getLsbD 5, f3 := a.getLsbD 3 }

/-- `SCF`: C set, H and N cleared, 5 and 3 from A (R558). -/
def scfFlags (a : Byte) (old : Flags) : Flags :=
  { old with c := true, h := false, n := false, f5 := a.getLsbD 5, f3 := a.getLsbD 3 }

/-! ## 16-bit arithmetic -/

/-- `ADD HL,rr`: the result and the flags; S, Z and PV kept, N by the parameter `ADD16_N` (R600). -/
def add16 (a b : Word) (old : Flags) : Word × Flags :=
  let t := a.toNat + b.toNat
  let res := BitVec.ofNat 16 t
  (res,
   { old with
     h := decide (a.toNat % 0x1000 + b.toNat % 0x1000 > 0xFFF)
     c := decide (t > 0xFFFF)
     f5 := res.getLsbD 13
     f3 := res.getLsbD 11
     n := Params.add16N old.n })

/-- `ADC HL,rr`: the result and its flags (R602). -/
def adc16 (a b : Word) (c : Bool) : Word × Flags :=
  let t := a.toNat + b.toNat + c.toNat
  let res := BitVec.ofNat 16 t
  (res,
   { s := res.getLsbD 15
     z := res == 0
     f5 := res.getLsbD 13
     h := decide (a.toNat % 0x1000 + b.toNat % 0x1000 + c.toNat > 0xFFF)
     f3 := res.getLsbD 11
     pv := a.getLsbD 15 == b.getLsbD 15 && res.getLsbD 15 != a.getLsbD 15
     n := false
     c := decide (t > 0xFFFF) })

/-- `SBC HL,rr`: the result and its flags (R603). -/
def sbc16 (a b : Word) (c : Bool) : Word × Flags :=
  let t : Int := (a.toNat : Int) - b.toNat - c.toNat
  let res := BitVec.ofInt 16 t
  (res,
   { s := res.getLsbD 15
     z := res == 0
     f5 := res.getLsbD 13
     h := decide (((a.toNat % 0x1000 : Nat) : Int) - (b.toNat % 0x1000 : Nat) - c.toNat < 0)
     f3 := res.getLsbD 11
     pv := a.getLsbD 15 != b.getLsbD 15 && res.getLsbD 15 != a.getLsbD 15
     n := true
     c := decide (t < 0) })

/-! ## Rotates, shifts and bits -/

/-- The rot-table (R305). -/
inductive RotOp where
  | rlc | rrc | rl | rr | sla | sra | sll | srl
deriving DecidableEq, Repr

/-- `shuffle(op, v, c)`: the result and the carry out (R640). -/
def shuffle (op : RotOp) (v : Byte) (c : Bool) : Byte × Bool :=
  let bit0 (b : Bool) : Byte := if b then 0x01 else 0x00
  let bit7 (b : Bool) : Byte := if b then 0x80 else 0x00
  match op with
  | .rlc => (v <<< 1 ||| bit0 (v.getLsbD 7), v.getLsbD 7)
  | .rrc => (v >>> 1 ||| bit7 (v.getLsbD 0), v.getLsbD 0)
  | .rl => (v <<< 1 ||| bit0 c, v.getLsbD 7)
  | .rr => (v >>> 1 ||| bit7 c, v.getLsbD 0)
  | .sla => (v <<< 1, v.getLsbD 7)
  | .sra => (v >>> 1 ||| bit7 (v.getLsbD 7), v.getLsbD 0)
  | .sll => (v <<< 1 ||| 0x01, v.getLsbD 7)
  | .srl => (v >>> 1, v.getLsbD 0)

/-- `shiftFlags(res, co)` (R641). -/
def shiftFlags (res : Byte) (co : Bool) : Flags where
  s := res.getLsbD 7
  z := res == 0
  f5 := res.getLsbD 5
  h := false
  f3 := res.getLsbD 3
  pv := Bits.parity res
  n := false
  c := co

/-- The accumulator rotates: C, H, N, 5 and 3; S, Z and PV kept (R642). -/
def accRotateFlags (res : Byte) (co : Bool) (old : Flags) : Flags :=
  { old with c := co, h := false, n := false, f5 := res.getLsbD 5, f3 := res.getLsbD 3 }

/-- `BIT b,m`: Z and PV from the tested bit, S only for a set bit 7, 5 and 3 from the tested value; C kept (R654). -/
def bitFlags (b : Fin 8) (v : Byte) (old : Flags) : Flags :=
  let t := v.getLsbD b.val
  { s := decide (b = 7) && t
    z := !t
    f5 := v.getLsbD 5
    h := true
    f3 := v.getLsbD 3
    pv := !t
    n := false
    c := old.c }

/-- `RLD`, `RRD` and `IN r,(C)`: S, Z, 5, 3 and parity of the value; H and N cleared, C kept (R657, R741). -/
def valueFlags (v : Byte) (old : Flags) : Flags where
  s := v.getLsbD 7
  z := v == 0
  f5 := v.getLsbD 5
  h := false
  f3 := v.getLsbD 3
  pv := Bits.parity v
  n := false
  c := old.c

/-- `LD A,I` and `LD A,R`: as the value, with PV = IFF2 (R414). -/
def loadSpecialFlags (v : Byte) (iff2 : Bool) (old : Flags) : Flags where
  s := v.getLsbD 7
  z := v == 0
  f5 := v.getLsbD 5
  h := false
  f3 := v.getLsbD 3
  pv := iff2
  n := false
  c := old.c

/-! ## Block instructions -/

/-- `LDI` and its kin: `n = A + t`; 5 and 3 are n's bits 1 and 3, PV says BC is not 0; S, Z and C kept (R505). -/
def blockMoveFlags (a t : Byte) (bc : Word) (old : Flags) : Flags :=
  let n : Byte := a + t
  { old with f5 := n.getLsbD 1, h := false, f3 := n.getLsbD 3, pv := bc != 0, n := false }

/-- `CPI`'s result `A - t` (R509). -/
def blockCompare (a t : Byte) : Byte := BitVec.ofInt 8 ((a.toNat : Int) - t.toNat)

/-- `CPI` and its kin: `n = res - h`; C kept (R509). -/
def blockCompareFlags (a t : Byte) (bc : Word) (old : Flags) : Flags :=
  let res := blockCompare a t
  let h := decide (Bits.lowNibble a < Bits.lowNibble t)
  let n := BitVec.ofInt 8 ((res.toNat : Int) - h.toNat)
  { s := res.getLsbD 7
    z := res == 0
    f5 := n.getLsbD 1
    h := h
    f3 := n.getLsbD 3
    pv := bc != 0
    n := true
    c := old.c }

/-- `blockIOFlags(b, t, k)` (R752). -/
def blockIOFlags (b t : Byte) (k : Nat) : Flags where
  s := b.getLsbD 7
  z := b == 0
  f5 := b.getLsbD 5
  h := decide (k > 255)
  f3 := b.getLsbD 3
  pv := Bits.parity (BitVec.ofNat 8 (k % 8) ^^^ b)
  n := t.getLsbD 7
  c := decide (k > 255)

/-! ## Conditions -/

/-- `cond(cc)` (R695). -/
def Flags.cond (fl : Flags) : Cond → Bool
  | .nz => !fl.z
  | .z => fl.z
  | .nc => !fl.c
  | .c => fl.c
  | .po => !fl.pv
  | .pe => fl.pv
  | .p => !fl.s
  | .m => fl.s

end Sys2Proof.Machine
end

