-- ==== Sys2Proof/Machine/Memory.lean ====
section
/-! DEFINITION. Byte arrays as lists of (address, byte) cells in one canonical form: addresses strictly rising, below the
array's size, and no cell equal to what an unlisted address reads as. `M`, VRAM and the frame buffer are three such
arrays (log 13). -/

namespace Sys2Proof.Machine

/-! ## Cell lists -/

/-- The byte at `a`; an unlisted address reads as `unlisted a`. -/
def Cells.read (unlisted : Nat → Byte) : List Host.Cell → Nat → Byte
  | [], a => unlisted a
  | (k, v) :: rest, a => if a = k then v else Cells.read unlisted rest a

/-- The list without the cell at `a`. -/
def Cells.erase (cells : List Host.Cell) (a : Nat) : List Host.Cell :=
  cells.filter fun cell => cell.1 != a

/-- The list with a cell added before the first higher address. -/
def Cells.insert : List Host.Cell → Nat → Byte → List Host.Cell
  | [], a, v => [(a, v)]
  | (k, w) :: rest, a, v => if a < k then (a, v) :: (k, w) :: rest else (k, w) :: Cells.insert rest a v

/-- The list after storing `v` at `a`; storing what an unlisted address reads as removes the cell. -/
def Cells.write (unlisted : Nat → Byte) (cells : List Host.Cell) (a : Nat) (v : Byte) : List Host.Cell :=
  if v = unlisted a then Cells.erase cells a else Cells.insert (Cells.erase cells a) a v

/-- The canonical form of an array of `size` bytes. -/
def Cells.wf (unlisted : Nat → Byte) (size : Nat) : List Host.Cell → Bool
  | [] => true
  | (k, v) :: rest =>
    decide (k < size) && v != unlisted k && rest.all (fun cell => decide (k < cell.1)) && Cells.wf unlisted size rest

/-- The list without the cells at the addresses that `drop` selects. -/
def Cells.clear (drop : Nat → Bool) (cells : List Host.Cell) : List Host.Cell :=
  cells.filter fun cell => !drop cell.1

/-- The list after storing bytes at `a`, `a + 1`, … in order. -/
def Cells.load (unlisted : Nat → Byte) (cells : List Host.Cell) (a : Nat) : List Byte → List Host.Cell
  | [] => cells
  | v :: rest => Cells.load unlisted (Cells.write unlisted cells a v) (a + 1) rest

/-! ## The three arrays -/

/-- What an unlisted byte of `M` reads as: 0x00, the content at construction (20_memory.md R206, 70_reset_and_hazards.md
R1004; log 15). -/
def Memory.unlisted (_ : Nat) : Byte := 0

/-- The canonical form of `M` (R200). -/
def Memory.wf (cells : List Host.Cell) : Bool := Cells.wf Memory.unlisted Config.memSize cells

/-- `MemRead(a, 1)` (R201). -/
def Memory.read (cells : List Host.Cell) (a : Word) : Byte := Cells.read Memory.unlisted cells a.toNat

/-- `MemWrite(a, 1, v)` (R201). -/
def Memory.write (cells : List Host.Cell) (a : Word) (v : Byte) : List Host.Cell :=
  Cells.write Memory.unlisted cells a.toNat v

/-- What an unlisted byte of VRAM reads as: 0x00, its content after reset (R128). -/
def Vram.unlisted (_ : Nat) : Byte := 0

/-- The canonical form of VRAM (R128). -/
def Vram.wf (cells : List Host.Cell) : Bool := Cells.wf Vram.unlisted Config.vramSize cells

/-- `VRAM[a]` (R128). -/
def Vram.read (cells : List Host.Cell) (a : Nat) : Byte := Cells.read Vram.unlisted cells a

/-- `VRAM[a] <- v` (R128). -/
def Vram.write (cells : List Host.Cell) (a : Nat) (v : Byte) : List Host.Cell := Cells.write Vram.unlisted cells a v

/-- What an unlisted byte of the frame buffer reads as: alpha 255, and 0 for R, G and B at construction (R131). -/
def FrameBuffer.unlisted (o : Nat) : Byte := if o % 4 = 3 then Config.alpha else 0

/-- The canonical form of the frame buffer (R131). -/
def FrameBuffer.wf (cells : List Host.Cell) : Bool := Cells.wf FrameBuffer.unlisted Config.frameBytes cells

/-- `FB[o]` (R131). -/
def FrameBuffer.read (cells : List Host.Cell) (o : Nat) : Byte := Cells.read FrameBuffer.unlisted cells o

/-- `FB[o] <- v` (R850). -/
def FrameBuffer.write (cells : List Host.Cell) (o : Nat) (v : Byte) : List Host.Cell :=
  Cells.write FrameBuffer.unlisted cells o v

/-- The offset of pixel (x, y)'s R byte; G, B and A follow (R131). -/
def FrameBuffer.offset (x y : Nat) : Nat := 4 * (y * Config.frameWidth + x)

/-- Pixel (x, y) as (R, G, B, A) (R131). -/
def FrameBuffer.pixel (cells : List Host.Cell) (x y : Nat) : Byte × Byte × Byte × Byte :=
  (FrameBuffer.read cells (FrameBuffer.offset x y), FrameBuffer.read cells (FrameBuffer.offset x y + 1),
    FrameBuffer.read cells (FrameBuffer.offset x y + 2), FrameBuffer.read cells (FrameBuffer.offset x y + 3))

end Sys2Proof.Machine
end

