-- ==== Sys2Proof/Machine/Ops.lean ====
section
/-! DEFINITION. The named operations over registers, memory and the stack (10_state.md, 20_memory.md, 00_scope.md R15,
R16), the refresh of R, taking an interrupt and returning from one (60_exceptions.md R910, R911, R915), raising a fault
(R920, R923), and the cost of a step. -/

namespace Sys2Proof.Machine

/-! ## Registers (10_state.md R100 to R105) -/

/-- A register of a bank. -/
def Bank.get (k : Bank) : RegName → Byte
  | .a => k.a
  | .f => k.f
  | .b => k.b
  | .c => k.c
  | .d => k.d
  | .e => k.e
  | .h => k.h
  | .l => k.l

/-- A bank with one register written. -/
def Bank.set (k : Bank) (q : RegName) (v : Byte) : Bank :=
  match q with
  | .a => { k with a := v }
  | .f => { k with f := v }
  | .b => { k with b := v }
  | .c => { k with c := v }
  | .d => { k with d := v }
  | .e => { k with e := v }
  | .h => { k with h := v }
  | .l => { k with l := v }

/-- The selector that resolves a register's name: `afSel` for A and F, `mainSel` for the rest (R101, R104). -/
def State.selector (s : State) : RegName → Bool
  | .a | .f => s.afSel
  | .b | .c | .d | .e | .h | .l => s.mainSel

/-- The register `q` of the physical bank `bank` (false = bank 0), whichever the selectors choose (R100). -/
def State.physical (s : State) (bank : Bool) (q : RegName) : Byte :=
  if bank then s.bank1.get q else s.bank0.get q

/-- `reg(X)`: the register as the selectors resolve it (R104). -/
def State.reg (s : State) (q : RegName) : Byte := s.physical (s.selector q) q

/-- `X <- v`: a write of the same physical cell (R104). -/
def State.setReg (s : State) (q : RegName) (v : Byte) : State :=
  { s with
    bank0 := if s.selector q then s.bank0 else s.bank0.set q v
    bank1 := if s.selector q then s.bank1.set q v else s.bank1 }

end Sys2Proof.Machine

namespace Sys2Proof

/-- The register an r-table entry names (30_encoding.md R305). -/
def Reg8.name : Reg8 → Machine.RegName
  | .b => .b
  | .c => .c
  | .d => .d
  | .e => .e
  | .h => .h
  | .l => .l
  | .a => .a

end Sys2Proof

namespace Sys2Proof.Machine

/-- `BC = B ++ C` (R103). -/
def State.bc (s : State) : Word := Bits.pair (s.reg .b) (s.reg .c)

/-- `DE = D ++ E` (R103). -/
def State.de (s : State) : Word := Bits.pair (s.reg .d) (s.reg .e)

/-- `HL = H ++ L` (R103). -/
def State.hl (s : State) : Word := Bits.pair (s.reg .h) (s.reg .l)

/-- `AF = A ++ F` (R103). -/
def State.af (s : State) : Word := Bits.pair (s.reg .a) (s.reg .f)

/-- Writing a pair writes both halves (R103). -/
def State.setBc (s : State) (v : Word) : State := (s.setReg .b (Bits.hi v)).setReg .c (Bits.lo v)

/-- Writing a pair writes both halves (R103). -/
def State.setDe (s : State) (v : Word) : State := (s.setReg .d (Bits.hi v)).setReg .e (Bits.lo v)

/-- Writing a pair writes both halves (R103). -/
def State.setHl (s : State) (v : Word) : State := (s.setReg .h (Bits.hi v)).setReg .l (Bits.lo v)

/-- Writing a pair writes both halves (R103). -/
def State.setAf (s : State) (v : Word) : State := (s.setReg .a (Bits.hi v)).setReg .f (Bits.lo v)

/-- The flags of the F that `afSel` selects (R110, R695). -/
def State.flags (s : State) : Flags := Flags.ofByte (s.reg .f)

/-- Write the flag byte. -/
def State.setFlags (s : State) (fl : Flags) : State := s.setReg .f fl.toByte

/-- IX or IY (R106). -/
def State.index (s : State) : Index → Word
  | .ix => s.ix
  | .iy => s.iy

/-- Write IX or IY (R106). -/
def State.setIndex (s : State) (xy : Index) (v : Word) : State :=
  { s with
    ix := if xy = .ix then v else s.ix
    iy := if xy = .iy then v else s.iy }

/-- `SP <- v` (R107). -/
def State.setSp (s : State) (v : Word) : State := { s with sp := v }

/-- `pc <- v` (R108). -/
def State.setPc (s : State) (v : Word) : State := { s with pc := v }

/-- `I <- v` (R114). -/
def State.setI (s : State) (v : Byte) : State := { s with iReg := v }

/-- `R <- v`, all 8 bits (R115, R417). -/
def State.setR (s : State) (v : Byte) : State := { s with rReg := v }

/-- `IFF1 <- v` (R116). -/
def State.setIff1 (s : State) (v : Bool) : State := { s with iff1 := v }

/-- `IFF2 <- v` (R116). -/
def State.setIff2 (s : State) (v : Bool) : State := { s with iff2 := v }

/-- `IM <- m` (R117). -/
def State.setIm (s : State) (m : IntMode) : State := { s with im := m }

/-- `halted <- v` (R118). -/
def State.setHalted (s : State) (v : Bool) : State := { s with halted := v }

/-- `nmiPending <- v` (R119). -/
def State.setNmiPending (s : State) (v : Bool) : State := { s with nmiPending := v }

/-- `afSel <- 1 - afSel` (R102). -/
def State.toggleAf (s : State) : State := { s with afSel := !s.afSel }

/-- `mainSel <- 1 - mainSel` (R102). -/
def State.toggleMain (s : State) : State := { s with mainSel := !s.mainSel }

/-- Replace the VDP's state (R122 to R132). -/
def State.setVdp (s : State) (v : Vdp) : State := { s with vdp := v }

/-- `joyMode <- m` (R133). -/
def State.setJoyMode (s : State) (m : JoyMode) : State := { s with joyMode := m }

/-- Append entries to `events` (R134). -/
def State.emit (s : State) (es : List Event) : State := { s with events := s.events ++ es }

/-- `cost(n)`: the T-states the step returns (R18). -/
def State.withCost (s : State) (n : Nat) : State := { s with cost := n }

/-! ## Memory and the stack (20_memory.md R201 to R204, 00_scope.md R16) -/

/-- `MemRead(a, 1)` (R201). -/
def State.read (s : State) (a : Word) : Byte := Memory.read s.mem a

/-- `MemWrite(a, 1, v)` (R201). -/
def State.write (s : State) (a : Word) (v : Byte) : State := { s with mem := Memory.write s.mem a v }

/-- `MemRead(a, 2)`: little-endian, each address modulo 2^16 (R202). -/
def State.read16 (s : State) (a : Word) : Word := Bits.pair (s.read (a + 1)) (s.read a)

/-- `MemWrite(a, 2, v)`: the low byte at `a`, then the high byte at `a + 1` (R202). -/
def State.write16 (s : State) (a v : Word) : State := (s.write a (Bits.lo v)).write (a + 1) (Bits.hi v)

/-- `push16(v)`: pre-decrement, high byte first (R16, R203). -/
def State.push16 (s : State) (v : Word) : State :=
  let s1 := s.setSp (s.sp - 1)
  let s2 := s1.write s1.sp (Bits.hi v)
  let s3 := s2.setSp (s2.sp - 1)
  s3.write s3.sp (Bits.lo v)

/-- The value `pop16()` returns (R16, R203). -/
def State.popped (s : State) : Word := s.read16 s.sp

/-- The state after `pop16()` (R16, R203). -/
def State.dropPopped (s : State) : State := s.setSp (s.sp + 2)

/-! ## The refresh register (30_encoding.md R303) -/

/-- `R[7] ++ trunc_7(R[6:0] + k)`: k refreshes of the low 7 bits (R115, R303). -/
def refreshed (r : Byte) (k : Nat) : Byte := BitVec.ofNat 8 (r.toNat / 128 * 128 + (r.toNat % 128 + k) % 128)

/-- `refresh()` k times (R303). -/
def State.refresh (s : State) (k : Nat) : State := { s with rReg := refreshed s.rReg k }

/-! ## Interrupts and faults (60_exceptions.md) -/

/-- What both interrupt entries do: leave the halt, clear IFF1, refresh R, push `pc`, jump to the vector and take the
entry's cost (R910, R911). -/
def State.enterInterrupt (s : State) (vector : Word) (cost : Nat) : State :=
  let s1 := ((s.setHalted false).setIff1 false).refresh 1
  ((s1.push16 s1.pc).setPc vector).withCost cost

/-- `acceptNMI()` (R910). -/
def State.acceptNmi (s : State) : State :=
  (s.setNmiPending false).enterInterrupt Params.nmiVector Params.nmiCost

/-- `acceptIM1()` (R911). -/
def State.acceptIm1 (s : State) : State :=
  (s.setIff2 false).enterInterrupt Params.im1Vector Params.im1Cost

/-- The return from an interrupt: `pc <- pop16(); IFF1 <- IFF2` (R711, R712, R915). -/
def State.returnFromInterrupt (s : State) : State :=
  ((s.setPc s.popped).dropPopped).setIff1 s.iff2

/-- `raise Fault(kind, info)`: only `fault` changes (R920, R923). -/
def State.raiseFault (s : State) (record : FaultRecord) : State := { s with fault := some record }

/-! ## Fetch (30_encoding.md R302) -/

/-- The decode of the four bytes at `pc`, addresses modulo 2^16 (R108, R302). -/
def State.decodeAtPc (s : State) : Except Reject Instr :=
  decode (s.read s.pc) (s.read (s.pc + 1)) (s.read (s.pc + 2)) (s.read (s.pc + 3))

/-- The state an instruction's meaning starts from: R refreshed once per opcode-fetch byte, `pc` past the instruction's
last byte (R108, R303, R304; log 10). -/
def State.afterFetch (s : State) (i : Instr) : State :=
  (s.refresh i.refreshes).setPc (s.pc + BitVec.ofNat 16 i.length)

end Sys2Proof.Machine
end

