-- ==== Sys2Proof/Machine/Operands.lean ====
section
/-! DEFINITION. The operand forms: the pair tables (30_encoding.md R305), effective addresses (R307), the 8-bit operand
`m` that is read and written and the source operand `s` (R308, 43_alu8.md R543), and relative targets (R306). -/

namespace Sys2Proof.Machine

/-- The value of an rp-table pair (R305). -/
def State.rp (s : State) : Rp → Word
  | .bc => s.bc
  | .de => s.de
  | .hl => s.hl
  | .sp => s.sp

/-- Write an rp-table pair (R305). -/
def State.setRp (s : State) (rr : Rp) (v : Word) : State :=
  match rr with
  | .bc => s.setBc v
  | .de => s.setDe v
  | .hl => s.setHl v
  | .sp => s.setSp v

/-- The value of an rp2-table pair (R305). -/
def State.qq (s : State) : Qq → Word
  | .bc => s.bc
  | .de => s.de
  | .hl => s.hl
  | .af => s.af

/-- Write an rp2-table pair (R305). -/
def State.setQq (s : State) (qq : Qq) (v : Word) : State :=
  match qq with
  | .bc => s.setBc v
  | .de => s.setDe v
  | .hl => s.setHl v
  | .af => s.setAf v

/-- The value of a pair in the index forms: entry 2 is XY itself (R305, R601). -/
def State.rpX (s : State) (xy : Index) : RpX → Word
  | .bc => s.bc
  | .de => s.de
  | .xy => s.index xy
  | .sp => s.sp

/-- `(XY+d)`: `trunc_16(XY + sext_8(d))` (R307). -/
def State.indexAddr (s : State) (xy : Index) (d : Byte) : Word := s.index xy + Bits.sext d

/-- The target of `JR`, `JR cc` and `DJNZ`: `trunc_16(pc + sext_8(e))`, `pc` past the instruction (R306). -/
def State.relTarget (s : State) (e : Byte) : Word := s.pc + Bits.sext e

/-- The operand `m` of INC, DEC and the CB instructions (R308). -/
inductive Loc where
  | reg (r : Reg8)
  | atHl
  | indexed (xy : Index) (d : Byte)
deriving DecidableEq, Repr

/-- The source operand `s` of the ALU instructions: a location or an immediate (R308, R543). -/
inductive Src where
  | loc (m : Loc)
  | imm (n : Byte)
deriving DecidableEq, Repr

/-- The memory address of `m`, if it is a memory operand (R307). -/
def State.locAddr (s : State) : Loc → Option Word
  | .reg _ => none
  | .atHl => some s.hl
  | .indexed xy d => some (s.indexAddr xy d)

/-- `read m` (R308). -/
def State.readLoc (s : State) : Loc → Byte
  | .reg r => s.reg r.name
  | .atHl => s.read s.hl
  | .indexed xy d => s.read (s.indexAddr xy d)

/-- `write m <- v`, at the address that was read (R308). -/
def State.writeLoc (s : State) (m : Loc) (v : Byte) : State :=
  match m with
  | .reg r => s.setReg r.name v
  | .atHl => s.write s.hl v
  | .indexed xy d => s.write (s.indexAddr xy d) v

/-- `read_s(form)` (R308). -/
def State.readSrc (s : State) : Src → Byte
  | .loc m => s.readLoc m
  | .imm n => n

end Sys2Proof.Machine
end

