-- ==== Sys2Proof/Machine/Alu16.lean ====
section
/-! DEFINITION. The meanings of the 16-bit arithmetic instructions (44_alu16.md R600 to R607). -/

namespace Sys2Proof.Machine

/-! ## Shared operations -/

/-- `ADD XY,rr`: the result to XY, the flags of R600; `cost(n)` (R601). -/
def addIndex (xy : Index) (b : Word) (cost : Nat) (s : State) : Result :=
  let r := add16 (s.index xy) b s.flags
  .next (((s.setIndex xy r.1).setFlags r.2).withCost cost)

/-! ## Meanings -/

/-- `ADD HL,rr` (R600). -/
def execAddHlRr (rr : Rp) (s : State) : Result :=
  let r := add16 s.hl (s.rp rr) s.flags
  .next (((s.setHl r.1).setFlags r.2).withCost (Params.cost (.addHlRr rr)))

/-- `ADD IX,rr` (R601). -/
def execAddIxRr (rr : RpX) (s : State) : Result := addIndex .ix (s.rpX .ix rr) (Params.cost (.addIxRr rr)) s

/-- `ADD IY,rr` (R601). -/
def execAddIyRr (rr : RpX) (s : State) : Result := addIndex .iy (s.rpX .iy rr) (Params.cost (.addIyRr rr)) s

/-- `ADC HL,rr` (R602). -/
def execAdcHlRr (rr : Rp) (s : State) : Result :=
  let r := adc16 s.hl (s.rp rr) s.flags.c
  .next (((s.setHl r.1).setFlags r.2).withCost (Params.cost (.adcHlRr rr)))

/-- `SBC HL,rr` (R603). -/
def execSbcHlRr (rr : Rp) (s : State) : Result :=
  let r := sbc16 s.hl (s.rp rr) s.flags.c
  .next (((s.setHl r.1).setFlags r.2).withCost (Params.cost (.sbcHlRr rr)))

/-- `INC rr` (R604). -/
def execIncRr (rr : Rp) (s : State) : Result := .next ((s.setRp rr (s.rp rr + 1)).withCost (Params.cost (.incRr rr)))

/-- `INC IX` (R605). -/
def execIncIx (s : State) : Result := .next ((s.setIndex .ix (s.ix + 1)).withCost (Params.cost .incIx))

/-- `INC IY` (R605). -/
def execIncIy (s : State) : Result := .next ((s.setIndex .iy (s.iy + 1)).withCost (Params.cost .incIy))

/-- `DEC rr` (R606). -/
def execDecRr (rr : Rp) (s : State) : Result := .next ((s.setRp rr (s.rp rr - 1)).withCost (Params.cost (.decRr rr)))

/-- `DEC IX` (R607). -/
def execDecIx (s : State) : Result := .next ((s.setIndex .ix (s.ix - 1)).withCost (Params.cost .decIx))

/-- `DEC IY` (R607). -/
def execDecIy (s : State) : Result := .next ((s.setIndex .iy (s.iy - 1)).withCost (Params.cost .decIy))

end Sys2Proof.Machine
end

