-- ==== Sys2Proof/Machine/Alu8.lean ====
section
/-! DEFINITION. The meanings of the 8-bit arithmetic and logic instructions (43_alu8.md R544 to R558). -/

namespace Sys2Proof.Machine

/-! ## Shared operations: one per operation of the alu-table, over the source forms of R543 -/

/-- `(res, fl) <- add8(A, s, c); A <- res; F <- fl; cost(form)` (R544, R545). -/
def aluAdd (src : Src) (c : Bool) (cost : Nat) (s : State) : Result :=
  let r := add8 (s.reg .a) (s.readSrc src) c
  .next (((s.setReg .a r.1).setFlags r.2).withCost cost)

/-- `(res, fl) <- sub8(A, s, c); A <- res; F <- fl; cost(form)` (R546, R547). -/
def aluSub (src : Src) (c : Bool) (cost : Nat) (s : State) : Result :=
  let r := sub8 (s.reg .a) (s.readSrc src) c
  .next (((s.setReg .a r.1).setFlags r.2).withCost cost)

/-- `A <- res; F <- logicFlags(res, h); cost(form)` (R548 to R550). -/
def aluLogic (res : Byte) (h : Bool) (cost : Nat) (s : State) : Result :=
  .next (((s.setReg .a res).setFlags (logicFlags res h)).withCost cost)

/-- `CP s`: the flags of the subtraction, A not written (R551). -/
def aluCompare (src : Src) (cost : Nat) (s : State) : Result :=
  .next ((s.setFlags (sub8 (s.reg .a) (s.readSrc src) false).2).withCost cost)

/-- `INC m` (R552). -/
def incLoc (m : Loc) (cost : Nat) (s : State) : Result :=
  let r := inc8 (s.readLoc m) s.flags
  .next (((s.writeLoc m r.1).setFlags r.2).withCost cost)

/-- `DEC m` (R553). -/
def decLoc (m : Loc) (cost : Nat) (s : State) : Result :=
  let r := dec8 (s.readLoc m) s.flags
  .next (((s.writeLoc m r.1).setFlags r.2).withCost cost)

/-! ## Meanings -/

/-- `ADD A,r` (R544). -/
def execAddR (r : Reg8) (s : State) : Result := aluAdd (.loc (.reg r)) false (Params.cost (.addR r)) s

/-- `ADD A,(HL)` (R544). -/
def execAddAtHl (s : State) : Result := aluAdd (.loc .atHl) false (Params.cost .addAtHl) s

/-- `ADD A,n` (R544). -/
def execAddN (n : Byte) (s : State) : Result := aluAdd (.imm n) false (Params.cost (.addN n)) s

/-- `ADD A,(IX+d)` (R544). -/
def execAddIxd (d : Byte) (s : State) : Result := aluAdd (.loc (.indexed .ix d)) false (Params.cost (.addIxd d)) s

/-- `ADD A,(IY+d)` (R544). -/
def execAddIyd (d : Byte) (s : State) : Result := aluAdd (.loc (.indexed .iy d)) false (Params.cost (.addIyd d)) s

/-- `ADC A,r` (R545). -/
def execAdcR (r : Reg8) (s : State) : Result := aluAdd (.loc (.reg r)) s.flags.c (Params.cost (.adcR r)) s

/-- `ADC A,(HL)` (R545). -/
def execAdcAtHl (s : State) : Result := aluAdd (.loc .atHl) s.flags.c (Params.cost .adcAtHl) s

/-- `ADC A,n` (R545). -/
def execAdcN (n : Byte) (s : State) : Result := aluAdd (.imm n) s.flags.c (Params.cost (.adcN n)) s

/-- `ADC A,(IX+d)` (R545). -/
def execAdcIxd (d : Byte) (s : State) : Result := aluAdd (.loc (.indexed .ix d)) s.flags.c (Params.cost (.adcIxd d)) s

/-- `ADC A,(IY+d)` (R545). -/
def execAdcIyd (d : Byte) (s : State) : Result := aluAdd (.loc (.indexed .iy d)) s.flags.c (Params.cost (.adcIyd d)) s

/-- `SUB r` (R546). -/
def execSubR (r : Reg8) (s : State) : Result := aluSub (.loc (.reg r)) false (Params.cost (.subR r)) s

/-- `SUB (HL)` (R546). -/
def execSubAtHl (s : State) : Result := aluSub (.loc .atHl) false (Params.cost .subAtHl) s

/-- `SUB n` (R546). -/
def execSubN (n : Byte) (s : State) : Result := aluSub (.imm n) false (Params.cost (.subN n)) s

/-- `SUB (IX+d)` (R546). -/
def execSubIxd (d : Byte) (s : State) : Result := aluSub (.loc (.indexed .ix d)) false (Params.cost (.subIxd d)) s

/-- `SUB (IY+d)` (R546). -/
def execSubIyd (d : Byte) (s : State) : Result := aluSub (.loc (.indexed .iy d)) false (Params.cost (.subIyd d)) s

/-- `SBC A,r` (R547). -/
def execSbcR (r : Reg8) (s : State) : Result := aluSub (.loc (.reg r)) s.flags.c (Params.cost (.sbcR r)) s

/-- `SBC A,(HL)` (R547). -/
def execSbcAtHl (s : State) : Result := aluSub (.loc .atHl) s.flags.c (Params.cost .sbcAtHl) s

/-- `SBC A,n` (R547). -/
def execSbcN (n : Byte) (s : State) : Result := aluSub (.imm n) s.flags.c (Params.cost (.sbcN n)) s

/-- `SBC A,(IX+d)` (R547). -/
def execSbcIxd (d : Byte) (s : State) : Result := aluSub (.loc (.indexed .ix d)) s.flags.c (Params.cost (.sbcIxd d)) s

/-- `SBC A,(IY+d)` (R547). -/
def execSbcIyd (d : Byte) (s : State) : Result := aluSub (.loc (.indexed .iy d)) s.flags.c (Params.cost (.sbcIyd d)) s

/-- `AND r` (R548). -/
def execAndR (r : Reg8) (s : State) : Result :=
  aluLogic (s.reg .a &&& s.readSrc (.loc (.reg r))) true (Params.cost (.andR r)) s

/-- `AND (HL)` (R548). -/
def execAndAtHl (s : State) : Result :=
  aluLogic (s.reg .a &&& s.readSrc (.loc .atHl)) true (Params.cost .andAtHl) s

/-- `AND n` (R548). -/
def execAndN (n : Byte) (s : State) : Result :=
  aluLogic (s.reg .a &&& s.readSrc (.imm n)) true (Params.cost (.andN n)) s

/-- `AND (IX+d)` (R548). -/
def execAndIxd (d : Byte) (s : State) : Result :=
  aluLogic (s.reg .a &&& s.readSrc (.loc (.indexed .ix d))) true (Params.cost (.andIxd d)) s

/-- `AND (IY+d)` (R548). -/
def execAndIyd (d : Byte) (s : State) : Result :=
  aluLogic (s.reg .a &&& s.readSrc (.loc (.indexed .iy d))) true (Params.cost (.andIyd d)) s

/-- `XOR r` (R549). -/
def execXorR (r : Reg8) (s : State) : Result :=
  aluLogic (s.reg .a ^^^ s.readSrc (.loc (.reg r))) false (Params.cost (.xorR r)) s

/-- `XOR (HL)` (R549). -/
def execXorAtHl (s : State) : Result :=
  aluLogic (s.reg .a ^^^ s.readSrc (.loc .atHl)) false (Params.cost .xorAtHl) s

/-- `XOR n` (R549). -/
def execXorN (n : Byte) (s : State) : Result :=
  aluLogic (s.reg .a ^^^ s.readSrc (.imm n)) false (Params.cost (.xorN n)) s

/-- `XOR (IX+d)` (R549). -/
def execXorIxd (d : Byte) (s : State) : Result :=
  aluLogic (s.reg .a ^^^ s.readSrc (.loc (.indexed .ix d))) false (Params.cost (.xorIxd d)) s

/-- `XOR (IY+d)` (R549). -/
def execXorIyd (d : Byte) (s : State) : Result :=
  aluLogic (s.reg .a ^^^ s.readSrc (.loc (.indexed .iy d))) false (Params.cost (.xorIyd d)) s

/-- `OR r` (R550). -/
def execOrR (r : Reg8) (s : State) : Result :=
  aluLogic (s.reg .a ||| s.readSrc (.loc (.reg r))) false (Params.cost (.orR r)) s

/-- `OR (HL)` (R550). -/
def execOrAtHl (s : State) : Result :=
  aluLogic (s.reg .a ||| s.readSrc (.loc .atHl)) false (Params.cost .orAtHl) s

/-- `OR n` (R550). -/
def execOrN (n : Byte) (s : State) : Result :=
  aluLogic (s.reg .a ||| s.readSrc (.imm n)) false (Params.cost (.orN n)) s

/-- `OR (IX+d)` (R550). -/
def execOrIxd (d : Byte) (s : State) : Result :=
  aluLogic (s.reg .a ||| s.readSrc (.loc (.indexed .ix d))) false (Params.cost (.orIxd d)) s

/-- `OR (IY+d)` (R550). -/
def execOrIyd (d : Byte) (s : State) : Result :=
  aluLogic (s.reg .a ||| s.readSrc (.loc (.indexed .iy d))) false (Params.cost (.orIyd d)) s

/-- `CP r` (R551). -/
def execCpR (r : Reg8) (s : State) : Result := aluCompare (.loc (.reg r)) (Params.cost (.cpR r)) s

/-- `CP (HL)` (R551). -/
def execCpAtHl (s : State) : Result := aluCompare (.loc .atHl) (Params.cost .cpAtHl) s

/-- `CP n` (R551). -/
def execCpN (n : Byte) (s : State) : Result := aluCompare (.imm n) (Params.cost (.cpN n)) s

/-- `CP (IX+d)` (R551). -/
def execCpIxd (d : Byte) (s : State) : Result := aluCompare (.loc (.indexed .ix d)) (Params.cost (.cpIxd d)) s

/-- `CP (IY+d)` (R551). -/
def execCpIyd (d : Byte) (s : State) : Result := aluCompare (.loc (.indexed .iy d)) (Params.cost (.cpIyd d)) s

/-- `INC r` (R552). -/
def execIncR (r : Reg8) (s : State) : Result := incLoc (.reg r) (Params.cost (.incR r)) s

/-- `INC (HL)` (R552). -/
def execIncAtHl (s : State) : Result := incLoc .atHl (Params.cost .incAtHl) s

/-- `INC (IX+d)` (R552). -/
def execIncIxd (d : Byte) (s : State) : Result := incLoc (.indexed .ix d) (Params.cost (.incIxd d)) s

/-- `INC (IY+d)` (R552). -/
def execIncIyd (d : Byte) (s : State) : Result := incLoc (.indexed .iy d) (Params.cost (.incIyd d)) s

/-- `DEC r` (R553). -/
def execDecR (r : Reg8) (s : State) : Result := decLoc (.reg r) (Params.cost (.decR r)) s

/-- `DEC (HL)` (R553). -/
def execDecAtHl (s : State) : Result := decLoc .atHl (Params.cost .decAtHl) s

/-- `DEC (IX+d)` (R553). -/
def execDecIxd (d : Byte) (s : State) : Result := decLoc (.indexed .ix d) (Params.cost (.decIxd d)) s

/-- `DEC (IY+d)` (R553). -/
def execDecIyd (d : Byte) (s : State) : Result := decLoc (.indexed .iy d) (Params.cost (.decIyd d)) s

/-- `DAA` (R554). -/
def execDaa (s : State) : Result :=
  let r := daa8 (s.reg .a) s.flags
  .next (((s.setReg .a r.1).setFlags r.2).withCost (Params.cost .daa))

/-- `CPL` (R555). -/
def execCpl (s : State) : Result :=
  let res := ~~~(s.reg .a)
  .next (((s.setReg .a res).setFlags (cplFlags res s.flags)).withCost (Params.cost .cpl))

/-- `NEG`: `sub8(0, A, 0)` (R556). -/
def execNeg (s : State) : Result :=
  let r := sub8 0 (s.reg .a) false
  .next (((s.setReg .a r.1).setFlags r.2).withCost (Params.cost .neg))

/-- `CCF` (R557). -/
def execCcf (s : State) : Result := .next ((s.setFlags (ccfFlags (s.reg .a) s.flags)).withCost (Params.cost .ccf))

/-- `SCF` (R558). -/
def execScf (s : State) : Result := .next ((s.setFlags (scfFlags (s.reg .a) s.flags)).withCost (Params.cost .scf))

end Sys2Proof.Machine
end

