-- ==== Sys2Proof/Machine/Control.lean ====
section
/-! DEFINITION. The meanings of the jumps, calls, returns and restarts (46_control.md R700 to R713). When a meaning runs,
`pc` is already past the whole instruction. -/

namespace Sys2Proof.Machine

/-! ## Shared operations -/

/-- `pc <- t; cost(n)`. -/
def jumpTo (t : Word) (cost : Nat) (s : State) : Result := .next ((s.setPc t).withCost cost)

/-- `push16(pc); pc <- t; cost(n)` (R707, R713). -/
def callTo (t : Word) (cost : Nat) (s : State) : Result := .next (((s.push16 s.pc).setPc t).withCost cost)

/-- `pc <- pop16(); cost(n)` (R709). -/
def returnFrom (cost : Nat) (s : State) : Result := .next (((s.setPc s.popped).dropPopped).withCost cost)

/-! ## Meanings -/

/-- `JP nn` (R700). -/
def execJpNn (nn : Word) (s : State) : Result := jumpTo nn (Params.cost (.jpNn nn)) s

/-- `JP cc,nn`: cost 10 taken or not (R701). -/
def execJpCcNn (cc : Cond) (nn : Word) (s : State) : Result :=
  if s.flags.cond cc then jumpTo nn (Params.cost (.jpCcNn cc nn) true) s
  else .next (s.withCost (Params.cost (.jpCcNn cc nn)))

/-- `JR e` (R702). -/
def execJrE (e : Byte) (s : State) : Result := jumpTo (s.relTarget e) (Params.cost (.jrE e)) s

/-- `JR cc,e` (R703). -/
def execJrCcE (cc : Cond) (e : Byte) (s : State) : Result :=
  if s.flags.cond cc then jumpTo (s.relTarget e) (Params.cost (.jrCcE cc e) true) s
  else .next (s.withCost (Params.cost (.jrCcE cc e)))

/-- `DJNZ e` (R704). -/
def execDjnzE (e : Byte) (s : State) : Result :=
  let b := s.reg .b - 1
  let t := s.setReg .b b
  if b ≠ 0 then jumpTo (t.relTarget e) (Params.cost (.djnzE e) true) t
  else .next (t.withCost (Params.cost (.djnzE e)))

/-- `JP (HL)` (R705). -/
def execJpHl (s : State) : Result := jumpTo s.hl (Params.cost .jpHl) s

/-- `JP (IX)` (R706). -/
def execJpIx (s : State) : Result := jumpTo s.ix (Params.cost .jpIx) s

/-- `JP (IY)` (R706). -/
def execJpIy (s : State) : Result := jumpTo s.iy (Params.cost .jpIy) s

/-- `CALL nn` (R707). -/
def execCallNn (nn : Word) (s : State) : Result := callTo nn (Params.cost (.callNn nn)) s

/-- `CALL cc,nn` (R708). -/
def execCallCcNn (cc : Cond) (nn : Word) (s : State) : Result :=
  if s.flags.cond cc then callTo nn (Params.cost (.callCcNn cc nn) true) s
  else .next (s.withCost (Params.cost (.callCcNn cc nn)))

/-- `RET` (R709). -/
def execRet (s : State) : Result := returnFrom (Params.cost .ret) s

/-- `RET cc` (R710). -/
def execRetCc (cc : Cond) (s : State) : Result :=
  if s.flags.cond cc then returnFrom (Params.cost (.retCc cc) true) s
  else .next (s.withCost (Params.cost (.retCc cc)))

/-- `RETI` (R711). -/
def execReti (s : State) : Result := .next (s.returnFromInterrupt.withCost (Params.cost .reti))

/-- `RETN` (R712). -/
def execRetn (s : State) : Result := .next (s.returnFromInterrupt.withCost (Params.cost .retn))

/-- `RST p` (R713). -/
def execRst (p : Byte) (s : State) : Result := callTo (Bits.zext p) (Params.cost (.rst p)) s

end Sys2Proof.Machine
end

