-- ==== Sys2Proof/Machine/Exchange.lean ====
section
/-! DEFINITION. The meanings of the exchanges, the bank toggles and the block transfer and search instructions
(42_exchange_block.md R500 to R512). -/

namespace Sys2Proof.Machine

/-! ## Shared operations -/

/-- A step of HL, DE or BC by one, up or down, modulo 2^16. -/
def stepBy (up : Bool) (v : Word) : Word := if up then v + 1 else v - 1

/-- One iteration of `LDI` (up) or `LDD` (down), without its cost (R505, R507). -/
def State.blockMove (s : State) (up : Bool) : State :=
  let t := s.read s.hl
  let bc := s.bc - 1
  let s1 := s.write s.de t
  let s2 := ((s1.setHl (stepBy up s.hl)).setDe (stepBy up s.de)).setBc bc
  s2.setFlags (blockMoveFlags (s.reg .a) t bc s.flags)

/-- One iteration of `CPI` (up) or `CPD` (down), without its cost (R509, R511). -/
def State.blockSearch (s : State) (up : Bool) : State :=
  let t := s.read s.hl
  let bc := s.bc - 1
  let s1 := (s.setHl (stepBy up s.hl)).setBc bc
  s1.setFlags (blockCompareFlags (s.reg .a) t bc s.flags)

/-- The end of the repeating block instruction `i`: `pc <- pc - 2` while the condition holds, and the cost of repeating or
not (R506). -/
def State.repeatWhile (s : State) (i : Instr) (again : Bool) : State :=
  (if again then s.setPc (s.pc - 2) else s).withCost (Params.cost i again)

/-- `LDIR` or `LDDR` (R506, R508). -/
def State.blockMoveRepeat (s : State) (i : Instr) (up : Bool) : State :=
  let t := s.blockMove up
  t.repeatWhile i (t.bc != 0)

/-- `CPIR` or `CPDR`: while BC is not 0 and there was no match (R510, R512). -/
def State.blockSearchRepeat (s : State) (i : Instr) (up : Bool) : State :=
  let t := s.blockSearch up
  t.repeatWhile i (t.bc != 0 && blockCompare (s.reg .a) (s.read s.hl) != 0)

/-! ## Meanings -/

/-- `EX DE,HL` (R500). -/
def execExDeHl (s : State) : Result := .next (((s.setDe s.hl).setHl s.de).withCost (Params.cost .exDeHl))

/-- `EX AF,AF'` (R501). -/
def execExAfAf (s : State) : Result := .next (s.toggleAf.withCost (Params.cost .exAfAf))

/-- `EXX` (R502). -/
def execExx (s : State) : Result := .next (s.toggleMain.withCost (Params.cost .exx))

/-- `EX (SP),HL` (R503). -/
def execExAtSpHl (s : State) : Result :=
  .next (((s.write16 s.sp s.hl).setHl (s.read16 s.sp)).withCost (Params.cost .exAtSpHl))

/-- `EX (SP),IX` (R504). -/
def execExAtSpIx (s : State) : Result :=
  .next (((s.write16 s.sp s.ix).setIndex .ix (s.read16 s.sp)).withCost (Params.cost .exAtSpIx))

/-- `EX (SP),IY` (R504). -/
def execExAtSpIy (s : State) : Result :=
  .next (((s.write16 s.sp s.iy).setIndex .iy (s.read16 s.sp)).withCost (Params.cost .exAtSpIy))

/-- `LDI` (R505). -/
def execLdi (s : State) : Result := .next ((s.blockMove true).withCost (Params.cost .ldi))

/-- `LDIR` (R506). -/
def execLdir (s : State) : Result := .next (s.blockMoveRepeat .ldir true)

/-- `LDD` (R507). -/
def execLdd (s : State) : Result := .next ((s.blockMove false).withCost (Params.cost .ldd))

/-- `LDDR` (R508). -/
def execLddr (s : State) : Result := .next (s.blockMoveRepeat .lddr false)

/-- `CPI` (R509). -/
def execCpi (s : State) : Result := .next ((s.blockSearch true).withCost (Params.cost .cpi))

/-- `CPIR` (R510). -/
def execCpir (s : State) : Result := .next (s.blockSearchRepeat .cpir true)

/-- `CPD` (R511). -/
def execCpd (s : State) : Result := .next ((s.blockSearch false).withCost (Params.cost .cpd))

/-- `CPDR` (R512). -/
def execCpdr (s : State) : Result := .next (s.blockSearchRepeat .cpdr false)

end Sys2Proof.Machine
end

