-- ==== Sys2Proof/Machine/Vdp.lean ====
section
/-! DEFINITION. The VDP's registers and port protocol (48_vdp.md R803, R810 to R814), the peripheral adapters (R870 to
R872) and the port dispatch of 20_memory.md R220. -/

namespace Sys2Proof.Machine

/-- `VR[n]` (R122). -/
def VdpRegs.get (vr : VdpRegs) (n : Fin 8) : Byte :=
  match n with
  | 0 => vr.r0
  | 1 => vr.r1
  | 2 => vr.r2
  | 3 => vr.r3
  | 4 => vr.r4
  | 5 => vr.r5
  | 6 => vr.r6
  | 7 => vr.r7

/-- `VR[n]` replaced. -/
def VdpRegs.set (vr : VdpRegs) (n : Fin 8) (v : Byte) : VdpRegs :=
  match n with
  | 0 => { vr with r0 := v }
  | 1 => { vr with r1 := v }
  | 2 => { vr with r2 := v }
  | 3 => { vr with r3 := v }
  | 4 => { vr with r4 := v }
  | 5 => { vr with r5 := v }
  | 6 => { vr with r6 := v }
  | 7 => { vr with r7 := v }

/-- A register write stores `value & VDP_REG_MASK[n]` (R803). -/
def Vdp.writeReg (v : Vdp) (n : Fin 8) (value : Byte) : Vdp :=
  { v with vr := v.vr.set n (value &&& Params.vdpRegMask n) }

/-- `trunc_14(vaddr + 1)` (R125). -/
def Vdp.nextAddr (v : Vdp) : BitVec 14 := v.vaddr + 1

/-- `VRAM[vaddr]`. -/
def Vdp.addressed (v : Vdp) : Byte := Vram.read v.vram v.vaddr.toNat

/-- `ControlWrite(v)` (R811). -/
def Vdp.controlWrite (v : Vdp) (x : Byte) : Vdp :=
  if v.latch = false then
    { v with vaddr := v.vaddr.extractLsb' 8 6 ++ x, latch := true }
  else if x.getLsbD 7 then
    { v with latch := false }.writeReg (Fin.ofNat 8 x.toNat) (v.vaddr.extractLsb' 0 8)
  else
    let set : Vdp := { v with latch := false, vaddr := x.extractLsb' 0 6 ++ v.vaddr.extractLsb' 0 8 }
    if x.getLsbD 6 then set
    else { set with readAhead := set.addressed, vaddr := set.nextAddr }

/-- `DataWrite(v)` (R812). -/
def Vdp.dataWrite (v : Vdp) (x : Byte) : Vdp :=
  { v with
    vram := Vram.write v.vram v.vaddr.toNat x
    vaddr := v.nextAddr
    readAhead := x
    latch := false }

/-- The state after `DataRead()`; the value it returns is `readAhead` before it (R813). -/
def Vdp.dataRead (v : Vdp) : Vdp :=
  { v with readAhead := v.addressed, vaddr := v.nextAddr, latch := false }

/-- The state after `StatusRead()`; the value it returns is `status` before it (R814). -/
def Vdp.statusRead (v : Vdp) : Vdp :=
  { v with status := v.status &&& 0x1F, latch := false }

/-- `JOY_RAW[ctrl][mode]`; true is controller 1 (R870). -/
def JoyRaw.get (j : JoyRaw) (ctrl : Bool) (mode : JoyMode) : BitVec 7 :=
  match ctrl, mode with
  | false, .a => j.c0a
  | false, .b => j.c0b
  | true, .a => j.c1a
  | true, .b => j.c1b

/-- The controller read: `(~JOY_RAW[p[1]][joyMode]) & 0x7F` (R870). -/
def State.controllerRead (s : State) (p : Byte) : Byte :=
  (~~~(s.host.joy.get (p.getLsbD 1) s.joyMode)).setWidth 8

/-- What a port's number selects (R220). -/
inductive Port where
  | vdpControl
  | vdpData
  | joyModeA
  | joyModeB
  | controllerOrSound
  | unmapped
deriving DecidableEq, Repr

/-- The port dispatch on `p = port[7:0]`: `g = p & 0xE0`, and bit 0 within the VDP's family (R220). -/
def portOf (p : Byte) : Port :=
  match p.toNat / 32 with
  | 5 => if p.getLsbD 0 then .vdpControl else .vdpData
  | 4 => .joyModeA
  | 6 => .joyModeB
  | 7 => .controllerOrSound
  | _ => .unmapped

/-- `PortIn(port)`: the byte it returns and the state after it (R17, R220). -/
def State.portIn (s : State) (port : Word) : Byte × State :=
  let p := Bits.lo port
  match portOf p with
  | .vdpControl => (s.vdp.status, s.setVdp s.vdp.statusRead)
  | .vdpData => (s.vdp.readAhead, s.setVdp s.vdp.dataRead)
  | .controllerOrSound => (s.controllerRead p, s)
  | .joyModeA => (Params.unmappedIn, s)
  | .joyModeB => (Params.unmappedIn, s)
  | .unmapped => (Params.unmappedIn, s)

/-- `PortOut(port, v)` (R17, R220). -/
def State.portOut (s : State) (port : Word) (v : Byte) : State :=
  match portOf (Bits.lo port) with
  | .vdpControl => s.setVdp (s.vdp.controlWrite v)
  | .vdpData => s.setVdp (s.vdp.dataWrite v)
  | .joyModeA => s.setJoyMode .a
  | .joyModeB => s.setJoyMode .b
  | .controllerOrSound => s.emit [.sound v]
  | .unmapped => s

end Sys2Proof.Machine
end

