-- ==== Sys2Proof/Machine/InOut.lean ====
section
/-! DEFINITION. The meanings of the input/output and CPU control instructions (47_io_cpu_control.md R740 to R768). -/

namespace Sys2Proof.Machine

/-! ## Shared operations -/

/-- The port address of the `(n)` forms: `A ++ n` (20_memory.md R210). -/
def State.portN (s : State) (n : Byte) : Word := Bits.pair (s.reg .a) n

/-- One iteration of `INI` (up) or `IND` (down), without its cost: the port is addressed with B before the decrement and
`k = t + trunc_8(C ± 1)` (R744, R746). -/
def State.blockIn (s : State) (up : Bool) : State :=
  let r := s.portIn s.bc
  let t := r.1
  let b := s.reg .b - 1
  let c := if up then s.reg .c + 1 else s.reg .c - 1
  let s1 := r.2.write s.hl t
  let s2 := (s1.setReg .b b).setHl (stepBy up s.hl)
  s2.setFlags (blockIOFlags b t (t.toNat + c.toNat))

/-- One iteration of `OUTI` (up) or `OUTD` (down), without its cost: the port is addressed with B after the decrement and
`k = t + L`, L after the HL update (R748, R750). -/
def State.blockOut (s : State) (up : Bool) : State :=
  let t := s.read s.hl
  let b := s.reg .b - 1
  let s1 := s.setReg .b b
  let s2 := s1.portOut s1.bc t
  let s3 := s2.setHl (stepBy up s2.hl)
  s3.setFlags (blockIOFlags b t (t.toNat + (s3.reg .l).toNat))

/-- `INIR` or `INDR`: while B is not 0 (R745, R747). -/
def State.blockInRepeat (s : State) (i : Instr) (up : Bool) : State :=
  let t := s.blockIn up
  t.repeatWhile i (t.reg .b != 0)

/-- `OTIR` or `OTDR`: while B is not 0 (R749, R751). -/
def State.blockOutRepeat (s : State) (i : Instr) (up : Bool) : State :=
  let t := s.blockOut up
  t.repeatWhile i (t.reg .b != 0)

/-! ## Meanings -/

/-- `IN A,(n)` (R740). -/
def execInAN (n : Byte) (s : State) : Result :=
  let r := s.portIn (s.portN n)
  .next ((r.2.setReg .a r.1).withCost (Params.cost (.inAN n)))

/-- `IN r,(C)` (R741). -/
def execInRC (r : Reg8) (s : State) : Result :=
  let v := s.portIn s.bc
  .next (((v.2.setReg r.name v.1).setFlags (valueFlags v.1 s.flags)).withCost (Params.cost (.inRC r)))

/-- `OUT (n),A` (R742). -/
def execOutNA (n : Byte) (s : State) : Result :=
  .next ((s.portOut (s.portN n) (s.reg .a)).withCost (Params.cost (.outNA n)))

/-- `OUT (C),r` (R743). -/
def execOutCR (r : Reg8) (s : State) : Result :=
  .next ((s.portOut s.bc (s.reg r.name)).withCost (Params.cost (.outCR r)))

/-- `INI` (R744). -/
def execIni (s : State) : Result := .next ((s.blockIn true).withCost (Params.cost .ini))

/-- `INIR` (R745). -/
def execInir (s : State) : Result := .next (s.blockInRepeat .inir true)

/-- `IND` (R746). -/
def execInd (s : State) : Result := .next ((s.blockIn false).withCost (Params.cost .ind))

/-- `INDR` (R747). -/
def execIndr (s : State) : Result := .next (s.blockInRepeat .indr false)

/-- `OUTI` (R748). -/
def execOuti (s : State) : Result := .next ((s.blockOut true).withCost (Params.cost .outi))

/-- `OTIR` (R749). -/
def execOtir (s : State) : Result := .next (s.blockOutRepeat .otir true)

/-- `OUTD` (R750). -/
def execOutd (s : State) : Result := .next ((s.blockOut false).withCost (Params.cost .outd))

/-- `OTDR` (R751). -/
def execOtdr (s : State) : Result := .next (s.blockOutRepeat .otdr false)

/-- `NOP` (R762). -/
def execNop (s : State) : Result := .next (s.withCost (Params.cost .nop))

/-- `HALT` (R763). -/
def execHalt (s : State) : Result := .next ((s.setHalted true).withCost (Params.cost .halt))

/-- `DI` (R764). -/
def execDi (s : State) : Result := .next (((s.setIff1 false).setIff2 false).withCost (Params.cost .di))

/-- `EI`: no delay (R765). -/
def execEi (s : State) : Result := .next (((s.setIff1 true).setIff2 true).withCost (Params.cost .ei))

/-- `IM 0` (R766). -/
def execIm0 (s : State) : Result := .next ((s.setIm .im0).withCost (Params.cost .im0))

/-- `IM 1` (R767). -/
def execIm1 (s : State) : Result := .next ((s.setIm .im1).withCost (Params.cost .im1))

/-- `IM 2` (R768). -/
def execIm2 (s : State) : Result := .next ((s.setIm .im2).withCost (Params.cost .im2))

end Sys2Proof.Machine
end

