-- ==== Sys2Proof/Machine/Load16.lean ====
section
/-! DEFINITION. The meanings of the 16-bit loads and the stack instructions (41_load16_stack.md R450 to R463). -/

namespace Sys2Proof.Machine

/-! ## Shared operations -/

/-- `rr <- v; cost(n)`. -/
def loadRp (rr : Rp) (v : Word) (cost : Nat) (s : State) : Result := .next ((s.setRp rr v).withCost cost)

/-- `XY <- v; cost(n)`. -/
def loadIndex (xy : Index) (v : Word) (cost : Nat) (s : State) : Result := .next ((s.setIndex xy v).withCost cost)

/-- `MemWrite(a, 2, v); cost(n)`. -/
def storeWord (a v : Word) (cost : Nat) (s : State) : Result := .next ((s.write16 a v).withCost cost)

/-- `SP <- v; cost(n)`. -/
def loadSp (v : Word) (cost : Nat) (s : State) : Result := .next ((s.setSp v).withCost cost)

/-- `push16(v); cost(n)`. -/
def pushWord (v : Word) (cost : Nat) (s : State) : Result := .next ((s.push16 v).withCost cost)

/-! ## Meanings -/

/-- `LD rr,nn` (R450). -/
def execLdRrNn (rr : Rp) (nn : Word) (s : State) : Result := loadRp rr nn (Params.cost (.ldRrNn rr nn)) s

/-- `LD IX,nn` (R451). -/
def execLdIxNn (nn : Word) (s : State) : Result := loadIndex .ix nn (Params.cost (.ldIxNn nn)) s

/-- `LD IY,nn` (R451). -/
def execLdIyNn (nn : Word) (s : State) : Result := loadIndex .iy nn (Params.cost (.ldIyNn nn)) s

/-- `LD HL,(nn)` (R452). -/
def execLdHlAtNn (nn : Word) (s : State) : Result := loadRp .hl (s.read16 nn) (Params.cost (.ldHlAtNn nn)) s

/-- `LD IX,(nn)` (R453). -/
def execLdIxAtNn (nn : Word) (s : State) : Result := loadIndex .ix (s.read16 nn) (Params.cost (.ldIxAtNn nn)) s

/-- `LD IY,(nn)` (R453). -/
def execLdIyAtNn (nn : Word) (s : State) : Result := loadIndex .iy (s.read16 nn) (Params.cost (.ldIyAtNn nn)) s

/-- `LD rr,(nn)`, the ED form (R454). -/
def execLdRrAtNn (rr : Rp) (nn : Word) (s : State) : Result :=
  loadRp rr (s.read16 nn) (Params.cost (.ldRrAtNn rr nn)) s

/-- `LD (nn),HL` (R455). -/
def execLdAtNnHl (nn : Word) (s : State) : Result := storeWord nn s.hl (Params.cost (.ldAtNnHl nn)) s

/-- `LD (nn),IX` (R456). -/
def execLdAtNnIx (nn : Word) (s : State) : Result := storeWord nn s.ix (Params.cost (.ldAtNnIx nn)) s

/-- `LD (nn),IY` (R456). -/
def execLdAtNnIy (nn : Word) (s : State) : Result := storeWord nn s.iy (Params.cost (.ldAtNnIy nn)) s

/-- `LD (nn),rr`, the ED form (R457). -/
def execLdAtNnRr (nn : Word) (rr : Rp) (s : State) : Result :=
  storeWord nn (s.rp rr) (Params.cost (.ldAtNnRr nn rr)) s

/-- `LD SP,HL` (R458). -/
def execLdSpHl (s : State) : Result := loadSp s.hl (Params.cost .ldSpHl) s

/-- `LD SP,IX` (R459). -/
def execLdSpIx (s : State) : Result := loadSp s.ix (Params.cost .ldSpIx) s

/-- `LD SP,IY` (R459). -/
def execLdSpIy (s : State) : Result := loadSp s.iy (Params.cost .ldSpIy) s

/-- `PUSH qq` (R460). -/
def execPushQq (qq : Qq) (s : State) : Result := pushWord (s.qq qq) (Params.cost (.pushQq qq)) s

/-- `PUSH IX` (R461). -/
def execPushIx (s : State) : Result := pushWord s.ix (Params.cost .pushIx) s

/-- `PUSH IY` (R461). -/
def execPushIy (s : State) : Result := pushWord s.iy (Params.cost .pushIy) s

/-- `POP qq` (R462). -/
def execPopQq (qq : Qq) (s : State) : Result :=
  .next ((s.dropPopped.setQq qq s.popped).withCost (Params.cost (.popQq qq)))

/-- `POP IX` (R463). -/
def execPopIx (s : State) : Result := .next ((s.dropPopped.setIndex .ix s.popped).withCost (Params.cost .popIx))

/-- `POP IY` (R463). -/
def execPopIy (s : State) : Result := .next ((s.dropPopped.setIndex .iy s.popped).withCost (Params.cost .popIy))

end Sys2Proof.Machine
end

