-- ==== Sys2Proof/Machine/Load8.lean ====
section
/-! DEFINITION. The meanings of the 8-bit loads (40_load8.md R400 to R417). -/

namespace Sys2Proof.Machine

/-! ## Shared operations -/

/-- `reg(r) <- v; cost(n)`; no flag. -/
def loadReg (r : Reg8) (v : Byte) (cost : Nat) (s : State) : Result := .next ((s.setReg r.name v).withCost cost)

/-- `MemWrite(a, 1, v); cost(n)`; no flag. -/
def storeByte (a : Word) (v : Byte) (cost : Nat) (s : State) : Result := .next ((s.write a v).withCost cost)

/-- `A <- v` with the flags of R414; `cost(n)`. -/
def loadSpecial (v : Byte) (cost : Nat) (s : State) : Result :=
  .next (((s.setReg .a v).setFlags (loadSpecialFlags v s.iff2 s.flags)).withCost cost)

/-! ## Meanings -/

/-- `LD r,r'` (R400). -/
def execLdRR (r r' : Reg8) (s : State) : Result := loadReg r (s.reg r'.name) (Params.cost (.ldRR r r')) s

/-- `LD r,n` (R401). -/
def execLdRN (r : Reg8) (n : Byte) (s : State) : Result := loadReg r n (Params.cost (.ldRN r n)) s

/-- `LD r,(HL)` (R402). -/
def execLdRAtHl (r : Reg8) (s : State) : Result := loadReg r (s.read s.hl) (Params.cost (.ldRAtHl r)) s

/-- `LD (HL),r` (R403). -/
def execLdAtHlR (r : Reg8) (s : State) : Result := storeByte s.hl (s.reg r.name) (Params.cost (.ldAtHlR r)) s

/-- `LD (HL),n` (R404). -/
def execLdAtHlN (n : Byte) (s : State) : Result := storeByte s.hl n (Params.cost (.ldAtHlN n)) s

/-- `LD A,(BC)` (R405). -/
def execLdAAtBc (s : State) : Result := loadReg .a (s.read s.bc) (Params.cost .ldAAtBc) s

/-- `LD A,(DE)` (R406). -/
def execLdAAtDe (s : State) : Result := loadReg .a (s.read s.de) (Params.cost .ldAAtDe) s

/-- `LD A,(nn)` (R407). -/
def execLdAAtNn (nn : Word) (s : State) : Result := loadReg .a (s.read nn) (Params.cost (.ldAAtNn nn)) s

/-- `LD (BC),A` (R408). -/
def execLdAtBcA (s : State) : Result := storeByte s.bc (s.reg .a) (Params.cost .ldAtBcA) s

/-- `LD (DE),A` (R409). -/
def execLdAtDeA (s : State) : Result := storeByte s.de (s.reg .a) (Params.cost .ldAtDeA) s

/-- `LD (nn),A` (R410). -/
def execLdAtNnA (nn : Word) (s : State) : Result := storeByte nn (s.reg .a) (Params.cost (.ldAtNnA nn)) s

/-- `LD r,(IX+d)` (R411). -/
def execLdRIxd (r : Reg8) (d : Byte) (s : State) : Result :=
  loadReg r (s.read (s.indexAddr .ix d)) (Params.cost (.ldRIxd r d)) s

/-- `LD r,(IY+d)` (R411). -/
def execLdRIyd (r : Reg8) (d : Byte) (s : State) : Result :=
  loadReg r (s.read (s.indexAddr .iy d)) (Params.cost (.ldRIyd r d)) s

/-- `LD (IX+d),r` (R412). -/
def execLdIxdR (d : Byte) (r : Reg8) (s : State) : Result :=
  storeByte (s.indexAddr .ix d) (s.reg r.name) (Params.cost (.ldIxdR d r)) s

/-- `LD (IY+d),r` (R412). -/
def execLdIydR (d : Byte) (r : Reg8) (s : State) : Result :=
  storeByte (s.indexAddr .iy d) (s.reg r.name) (Params.cost (.ldIydR d r)) s

/-- `LD (IX+d),n` (R413). -/
def execLdIxdN (d n : Byte) (s : State) : Result := storeByte (s.indexAddr .ix d) n (Params.cost (.ldIxdN d n)) s

/-- `LD (IY+d),n` (R413). -/
def execLdIydN (d n : Byte) (s : State) : Result := storeByte (s.indexAddr .iy d) n (Params.cost (.ldIydN d n)) s

/-- `LD A,I` (R414). -/
def execLdAI (s : State) : Result := loadSpecial s.iReg (Params.cost .ldAI) s

/-- `LD A,R`: R after this instruction's refreshes (R415). -/
def execLdAR (s : State) : Result := loadSpecial s.rReg (Params.cost .ldAR) s

/-- `LD I,A` (R416). -/
def execLdIA (s : State) : Result := .next ((s.setI (s.reg .a)).withCost (Params.cost .ldIA))

/-- `LD R,A`: after this instruction's refreshes, all 8 bits (R417). -/
def execLdRA (s : State) : Result := .next ((s.setR (s.reg .a)).withCost (Params.cost .ldRA))

end Sys2Proof.Machine
end

