-- ==== Sys2Proof/Machine/Rotate.lean ====
section
/-! DEFINITION. The meanings of the rotates, shifts, bit operations and digit rotates (45_rotate_bit.md R642 to R658). -/

namespace Sys2Proof.Machine

/-! ## Shared operations -/

/-- An accumulator rotate (R642). -/
def rotateAcc (op : RotOp) (cost : Nat) (s : State) : Result :=
  let r := shuffle op (s.reg .a) s.flags.c
  .next (((s.setReg .a r.1).setFlags (accRotateFlags r.1 r.2 s.flags)).withCost cost)

/-- The family pseudocode of the CB rotates and shifts (45_rotate_bit.md section 3). -/
def rotateLoc (op : RotOp) (m : Loc) (cost : Nat) (s : State) : Result :=
  let r := shuffle op (s.readLoc m) s.flags.c
  .next (((s.writeLoc m r.1).setFlags (shiftFlags r.1 r.2)).withCost cost)

/-- `BIT b,m` (R654). -/
def bitLoc (b : Fin 8) (m : Loc) (cost : Nat) (s : State) : Result :=
  .next ((s.setFlags (bitFlags b (s.readLoc m) s.flags)).withCost cost)

/-- `RES b,m`: `v & ~(1 << b)` (R655). -/
def resLoc (b : Fin 8) (m : Loc) (cost : Nat) (s : State) : Result :=
  .next ((s.writeLoc m (s.readLoc m &&& ~~~((1 : Byte) <<< b.val))).withCost cost)

/-- `SET b,m`: `v | (1 << b)` (R656). -/
def setLoc (b : Fin 8) (m : Loc) (cost : Nat) (s : State) : Result :=
  .next ((s.writeLoc m (s.readLoc m ||| (1 : Byte) <<< b.val)).withCost cost)

/-- `RLD` and `RRD`: store `v` at (HL), A takes `a`, flags from the new A (R657). -/
def rotateDigits (v a : Byte) (cost : Nat) (s : State) : Result :=
  .next ((((s.write s.hl v).setReg .a a).setFlags (valueFlags a s.flags)).withCost cost)

/-! ## Meanings -/

/-- `RLCA` (R642). -/
def execRlca (s : State) : Result := rotateAcc .rlc (Params.cost .rlca) s

/-- `RRCA` (R643). -/
def execRrca (s : State) : Result := rotateAcc .rrc (Params.cost .rrca) s

/-- `RLA` (R644). -/
def execRla (s : State) : Result := rotateAcc .rl (Params.cost .rla) s

/-- `RRA` (R645). -/
def execRra (s : State) : Result := rotateAcc .rr (Params.cost .rra) s

/-- `RLC r` (R646). -/
def execRlcR (r : Reg8) (s : State) : Result := rotateLoc .rlc (.reg r) (Params.cost (.rlcR r)) s

/-- `RLC (HL)` (R646). -/
def execRlcAtHl (s : State) : Result := rotateLoc .rlc .atHl (Params.cost .rlcAtHl) s

/-- `RLC (IX+d)` (R646). -/
def execRlcIxd (d : Byte) (s : State) : Result := rotateLoc .rlc (.indexed .ix d) (Params.cost (.rlcIxd d)) s

/-- `RLC (IY+d)` (R646). -/
def execRlcIyd (d : Byte) (s : State) : Result := rotateLoc .rlc (.indexed .iy d) (Params.cost (.rlcIyd d)) s

/-- `RRC r` (R647). -/
def execRrcR (r : Reg8) (s : State) : Result := rotateLoc .rrc (.reg r) (Params.cost (.rrcR r)) s

/-- `RRC (HL)` (R647). -/
def execRrcAtHl (s : State) : Result := rotateLoc .rrc .atHl (Params.cost .rrcAtHl) s

/-- `RRC (IX+d)` (R647). -/
def execRrcIxd (d : Byte) (s : State) : Result := rotateLoc .rrc (.indexed .ix d) (Params.cost (.rrcIxd d)) s

/-- `RRC (IY+d)` (R647). -/
def execRrcIyd (d : Byte) (s : State) : Result := rotateLoc .rrc (.indexed .iy d) (Params.cost (.rrcIyd d)) s

/-- `RL r` (R648). -/
def execRlR (r : Reg8) (s : State) : Result := rotateLoc .rl (.reg r) (Params.cost (.rlR r)) s

/-- `RL (HL)` (R648). -/
def execRlAtHl (s : State) : Result := rotateLoc .rl .atHl (Params.cost .rlAtHl) s

/-- `RL (IX+d)` (R648). -/
def execRlIxd (d : Byte) (s : State) : Result := rotateLoc .rl (.indexed .ix d) (Params.cost (.rlIxd d)) s

/-- `RL (IY+d)` (R648). -/
def execRlIyd (d : Byte) (s : State) : Result := rotateLoc .rl (.indexed .iy d) (Params.cost (.rlIyd d)) s

/-- `RR r` (R649). -/
def execRrR (r : Reg8) (s : State) : Result := rotateLoc .rr (.reg r) (Params.cost (.rrR r)) s

/-- `RR (HL)` (R649). -/
def execRrAtHl (s : State) : Result := rotateLoc .rr .atHl (Params.cost .rrAtHl) s

/-- `RR (IX+d)` (R649). -/
def execRrIxd (d : Byte) (s : State) : Result := rotateLoc .rr (.indexed .ix d) (Params.cost (.rrIxd d)) s

/-- `RR (IY+d)` (R649). -/
def execRrIyd (d : Byte) (s : State) : Result := rotateLoc .rr (.indexed .iy d) (Params.cost (.rrIyd d)) s

/-- `SLA r` (R650). -/
def execSlaR (r : Reg8) (s : State) : Result := rotateLoc .sla (.reg r) (Params.cost (.slaR r)) s

/-- `SLA (HL)` (R650). -/
def execSlaAtHl (s : State) : Result := rotateLoc .sla .atHl (Params.cost .slaAtHl) s

/-- `SLA (IX+d)` (R650). -/
def execSlaIxd (d : Byte) (s : State) : Result := rotateLoc .sla (.indexed .ix d) (Params.cost (.slaIxd d)) s

/-- `SLA (IY+d)` (R650). -/
def execSlaIyd (d : Byte) (s : State) : Result := rotateLoc .sla (.indexed .iy d) (Params.cost (.slaIyd d)) s

/-- `SRA r` (R651). -/
def execSraR (r : Reg8) (s : State) : Result := rotateLoc .sra (.reg r) (Params.cost (.sraR r)) s

/-- `SRA (HL)` (R651). -/
def execSraAtHl (s : State) : Result := rotateLoc .sra .atHl (Params.cost .sraAtHl) s

/-- `SRA (IX+d)` (R651). -/
def execSraIxd (d : Byte) (s : State) : Result := rotateLoc .sra (.indexed .ix d) (Params.cost (.sraIxd d)) s

/-- `SRA (IY+d)` (R651). -/
def execSraIyd (d : Byte) (s : State) : Result := rotateLoc .sra (.indexed .iy d) (Params.cost (.sraIyd d)) s

/-- `SLL r` (R652). -/
def execSllR (r : Reg8) (s : State) : Result := rotateLoc .sll (.reg r) (Params.cost (.sllR r)) s

/-- `SLL (HL)` (R652). -/
def execSllAtHl (s : State) : Result := rotateLoc .sll .atHl (Params.cost .sllAtHl) s

/-- `SLL (IX+d)` (R652). -/
def execSllIxd (d : Byte) (s : State) : Result := rotateLoc .sll (.indexed .ix d) (Params.cost (.sllIxd d)) s

/-- `SLL (IY+d)` (R652). -/
def execSllIyd (d : Byte) (s : State) : Result := rotateLoc .sll (.indexed .iy d) (Params.cost (.sllIyd d)) s

/-- `SRL r` (R653). -/
def execSrlR (r : Reg8) (s : State) : Result := rotateLoc .srl (.reg r) (Params.cost (.srlR r)) s

/-- `SRL (HL)` (R653). -/
def execSrlAtHl (s : State) : Result := rotateLoc .srl .atHl (Params.cost .srlAtHl) s

/-- `SRL (IX+d)` (R653). -/
def execSrlIxd (d : Byte) (s : State) : Result := rotateLoc .srl (.indexed .ix d) (Params.cost (.srlIxd d)) s

/-- `SRL (IY+d)` (R653). -/
def execSrlIyd (d : Byte) (s : State) : Result := rotateLoc .srl (.indexed .iy d) (Params.cost (.srlIyd d)) s

/-- `BIT b,r` (R654). -/
def execBitR (b : Fin 8) (r : Reg8) (s : State) : Result := bitLoc b (.reg r) (Params.cost (.bitR b r)) s

/-- `BIT b,(HL)` (R654). -/
def execBitAtHl (b : Fin 8) (s : State) : Result := bitLoc b .atHl (Params.cost (.bitAtHl b)) s

/-- `BIT b,(IX+d)` (R654). -/
def execBitIxd (b : Fin 8) (d : Byte) (s : State) : Result := bitLoc b (.indexed .ix d) (Params.cost (.bitIxd b d)) s

/-- `BIT b,(IY+d)` (R654). -/
def execBitIyd (b : Fin 8) (d : Byte) (s : State) : Result := bitLoc b (.indexed .iy d) (Params.cost (.bitIyd b d)) s

/-- `RES b,r` (R655). -/
def execResR (b : Fin 8) (r : Reg8) (s : State) : Result := resLoc b (.reg r) (Params.cost (.resR b r)) s

/-- `RES b,(HL)` (R655). -/
def execResAtHl (b : Fin 8) (s : State) : Result := resLoc b .atHl (Params.cost (.resAtHl b)) s

/-- `RES b,(IX+d)` (R655). -/
def execResIxd (b : Fin 8) (d : Byte) (s : State) : Result := resLoc b (.indexed .ix d) (Params.cost (.resIxd b d)) s

/-- `RES b,(IY+d)` (R655). -/
def execResIyd (b : Fin 8) (d : Byte) (s : State) : Result := resLoc b (.indexed .iy d) (Params.cost (.resIyd b d)) s

/-- `SET b,r` (R656). -/
def execSetR (b : Fin 8) (r : Reg8) (s : State) : Result := setLoc b (.reg r) (Params.cost (.setR b r)) s

/-- `SET b,(HL)` (R656). -/
def execSetAtHl (b : Fin 8) (s : State) : Result := setLoc b .atHl (Params.cost (.setAtHl b)) s

/-- `SET b,(IX+d)` (R656). -/
def execSetIxd (b : Fin 8) (d : Byte) (s : State) : Result := setLoc b (.indexed .ix d) (Params.cost (.setIxd b d)) s

/-- `SET b,(IY+d)` (R656). -/
def execSetIyd (b : Fin 8) (d : Byte) (s : State) : Result := setLoc b (.indexed .iy d) (Params.cost (.setIyd b d)) s

/-- `RLD` (R657). -/
def execRld (s : State) : Result :=
  let t := s.read s.hl
  let a := s.reg .a
  rotateDigits (t <<< 4 ||| (a &&& 0x0F)) ((a &&& 0xF0) ||| t >>> 4) (Params.cost .rld) s

/-- `RRD` (R658). -/
def execRrd (s : State) : Result :=
  let t := s.read s.hl
  let a := s.reg .a
  rotateDigits (a <<< 4 ||| t >>> 4) ((a &&& 0xF0) ||| (t &&& 0x0F)) (Params.cost .rrd) s

end Sys2Proof.Machine
end

