-- ==== Sys2Proof/Machine/Dispatch.lean ====
section
/-! DEFINITION. One arm per constructor of `Instr`: its meaning. -/

namespace Sys2Proof.Machine

def exec (i : Instr) (s : State) : Host.Outcome State Fault Refusal :=
  match i with
  | .ldRR r r' => Sys2Proof.Machine.execLdRR r r' s
  | .ldRN r n => Sys2Proof.Machine.execLdRN r n s
  | .ldRAtHl r => Sys2Proof.Machine.execLdRAtHl r s
  | .ldAtHlR r => Sys2Proof.Machine.execLdAtHlR r s
  | .ldAtHlN n => Sys2Proof.Machine.execLdAtHlN n s
  | .ldAAtBc => Sys2Proof.Machine.execLdAAtBc s
  | .ldAAtDe => Sys2Proof.Machine.execLdAAtDe s
  | .ldAAtNn nn => Sys2Proof.Machine.execLdAAtNn nn s
  | .ldAtBcA => Sys2Proof.Machine.execLdAtBcA s
  | .ldAtDeA => Sys2Proof.Machine.execLdAtDeA s
  | .ldAtNnA nn => Sys2Proof.Machine.execLdAtNnA nn s
  | .ldRIxd r d => Sys2Proof.Machine.execLdRIxd r d s
  | .ldRIyd r d => Sys2Proof.Machine.execLdRIyd r d s
  | .ldIxdR d r => Sys2Proof.Machine.execLdIxdR d r s
  | .ldIydR d r => Sys2Proof.Machine.execLdIydR d r s
  | .ldIxdN d n => Sys2Proof.Machine.execLdIxdN d n s
  | .ldIydN d n => Sys2Proof.Machine.execLdIydN d n s
  | .ldAI => Sys2Proof.Machine.execLdAI s
  | .ldAR => Sys2Proof.Machine.execLdAR s
  | .ldIA => Sys2Proof.Machine.execLdIA s
  | .ldRA => Sys2Proof.Machine.execLdRA s
  | .ldRrNn rr nn => Sys2Proof.Machine.execLdRrNn rr nn s
  | .ldIxNn nn => Sys2Proof.Machine.execLdIxNn nn s
  | .ldIyNn nn => Sys2Proof.Machine.execLdIyNn nn s
  | .ldHlAtNn nn => Sys2Proof.Machine.execLdHlAtNn nn s
  | .ldIxAtNn nn => Sys2Proof.Machine.execLdIxAtNn nn s
  | .ldIyAtNn nn => Sys2Proof.Machine.execLdIyAtNn nn s
  | .ldRrAtNn rr nn => Sys2Proof.Machine.execLdRrAtNn rr nn s
  | .ldAtNnHl nn => Sys2Proof.Machine.execLdAtNnHl nn s
  | .ldAtNnIx nn => Sys2Proof.Machine.execLdAtNnIx nn s
  | .ldAtNnIy nn => Sys2Proof.Machine.execLdAtNnIy nn s
  | .ldAtNnRr nn rr => Sys2Proof.Machine.execLdAtNnRr nn rr s
  | .ldSpHl => Sys2Proof.Machine.execLdSpHl s
  | .ldSpIx => Sys2Proof.Machine.execLdSpIx s
  | .ldSpIy => Sys2Proof.Machine.execLdSpIy s
  | .pushQq qq => Sys2Proof.Machine.execPushQq qq s
  | .pushIx => Sys2Proof.Machine.execPushIx s
  | .pushIy => Sys2Proof.Machine.execPushIy s
  | .popQq qq => Sys2Proof.Machine.execPopQq qq s
  | .popIx => Sys2Proof.Machine.execPopIx s
  | .popIy => Sys2Proof.Machine.execPopIy s
  | .exDeHl => Sys2Proof.Machine.execExDeHl s
  | .exAfAf => Sys2Proof.Machine.execExAfAf s
  | .exx => Sys2Proof.Machine.execExx s
  | .exAtSpHl => Sys2Proof.Machine.execExAtSpHl s
  | .exAtSpIx => Sys2Proof.Machine.execExAtSpIx s
  | .exAtSpIy => Sys2Proof.Machine.execExAtSpIy s
  | .ldi => Sys2Proof.Machine.execLdi s
  | .ldir => Sys2Proof.Machine.execLdir s
  | .ldd => Sys2Proof.Machine.execLdd s
  | .lddr => Sys2Proof.Machine.execLddr s
  | .cpi => Sys2Proof.Machine.execCpi s
  | .cpir => Sys2Proof.Machine.execCpir s
  | .cpd => Sys2Proof.Machine.execCpd s
  | .cpdr => Sys2Proof.Machine.execCpdr s
  | .addR r => Sys2Proof.Machine.execAddR r s
  | .addAtHl => Sys2Proof.Machine.execAddAtHl s
  | .addN n => Sys2Proof.Machine.execAddN n s
  | .addIxd d => Sys2Proof.Machine.execAddIxd d s
  | .addIyd d => Sys2Proof.Machine.execAddIyd d s
  | .adcR r => Sys2Proof.Machine.execAdcR r s
  | .adcAtHl => Sys2Proof.Machine.execAdcAtHl s
  | .adcN n => Sys2Proof.Machine.execAdcN n s
  | .adcIxd d => Sys2Proof.Machine.execAdcIxd d s
  | .adcIyd d => Sys2Proof.Machine.execAdcIyd d s
  | .subR r => Sys2Proof.Machine.execSubR r s
  | .subAtHl => Sys2Proof.Machine.execSubAtHl s
  | .subN n => Sys2Proof.Machine.execSubN n s
  | .subIxd d => Sys2Proof.Machine.execSubIxd d s
  | .subIyd d => Sys2Proof.Machine.execSubIyd d s
  | .sbcR r => Sys2Proof.Machine.execSbcR r s
  | .sbcAtHl => Sys2Proof.Machine.execSbcAtHl s
  | .sbcN n => Sys2Proof.Machine.execSbcN n s
  | .sbcIxd d => Sys2Proof.Machine.execSbcIxd d s
  | .sbcIyd d => Sys2Proof.Machine.execSbcIyd d s
  | .andR r => Sys2Proof.Machine.execAndR r s
  | .andAtHl => Sys2Proof.Machine.execAndAtHl s
  | .andN n => Sys2Proof.Machine.execAndN n s
  | .andIxd d => Sys2Proof.Machine.execAndIxd d s
  | .andIyd d => Sys2Proof.Machine.execAndIyd d s
  | .xorR r => Sys2Proof.Machine.execXorR r s
  | .xorAtHl => Sys2Proof.Machine.execXorAtHl s
  | .xorN n => Sys2Proof.Machine.execXorN n s
  | .xorIxd d => Sys2Proof.Machine.execXorIxd d s
  | .xorIyd d => Sys2Proof.Machine.execXorIyd d s
  | .orR r => Sys2Proof.Machine.execOrR r s
  | .orAtHl => Sys2Proof.Machine.execOrAtHl s
  | .orN n => Sys2Proof.Machine.execOrN n s
  | .orIxd d => Sys2Proof.Machine.execOrIxd d s
  | .orIyd d => Sys2Proof.Machine.execOrIyd d s
  | .cpR r => Sys2Proof.Machine.execCpR r s
  | .cpAtHl => Sys2Proof.Machine.execCpAtHl s
  | .cpN n => Sys2Proof.Machine.execCpN n s
  | .cpIxd d => Sys2Proof.Machine.execCpIxd d s
  | .cpIyd d => Sys2Proof.Machine.execCpIyd d s
  | .incR r => Sys2Proof.Machine.execIncR r s
  | .incAtHl => Sys2Proof.Machine.execIncAtHl s
  | .incIxd d => Sys2Proof.Machine.execIncIxd d s
  | .incIyd d => Sys2Proof.Machine.execIncIyd d s
  | .decR r => Sys2Proof.Machine.execDecR r s
  | .decAtHl => Sys2Proof.Machine.execDecAtHl s
  | .decIxd d => Sys2Proof.Machine.execDecIxd d s
  | .decIyd d => Sys2Proof.Machine.execDecIyd d s
  | .daa => Sys2Proof.Machine.execDaa s
  | .cpl => Sys2Proof.Machine.execCpl s
  | .neg => Sys2Proof.Machine.execNeg s
  | .ccf => Sys2Proof.Machine.execCcf s
  | .scf => Sys2Proof.Machine.execScf s
  | .addHlRr rr => Sys2Proof.Machine.execAddHlRr rr s
  | .addIxRr rr => Sys2Proof.Machine.execAddIxRr rr s
  | .addIyRr rr => Sys2Proof.Machine.execAddIyRr rr s
  | .adcHlRr rr => Sys2Proof.Machine.execAdcHlRr rr s
  | .sbcHlRr rr => Sys2Proof.Machine.execSbcHlRr rr s
  | .incRr rr => Sys2Proof.Machine.execIncRr rr s
  | .incIx => Sys2Proof.Machine.execIncIx s
  | .incIy => Sys2Proof.Machine.execIncIy s
  | .decRr rr => Sys2Proof.Machine.execDecRr rr s
  | .decIx => Sys2Proof.Machine.execDecIx s
  | .decIy => Sys2Proof.Machine.execDecIy s
  | .rlca => Sys2Proof.Machine.execRlca s
  | .rrca => Sys2Proof.Machine.execRrca s
  | .rla => Sys2Proof.Machine.execRla s
  | .rra => Sys2Proof.Machine.execRra s
  | .rlcR r => Sys2Proof.Machine.execRlcR r s
  | .rlcAtHl => Sys2Proof.Machine.execRlcAtHl s
  | .rlcIxd d => Sys2Proof.Machine.execRlcIxd d s
  | .rlcIyd d => Sys2Proof.Machine.execRlcIyd d s
  | .rrcR r => Sys2Proof.Machine.execRrcR r s
  | .rrcAtHl => Sys2Proof.Machine.execRrcAtHl s
  | .rrcIxd d => Sys2Proof.Machine.execRrcIxd d s
  | .rrcIyd d => Sys2Proof.Machine.execRrcIyd d s
  | .rlR r => Sys2Proof.Machine.execRlR r s
  | .rlAtHl => Sys2Proof.Machine.execRlAtHl s
  | .rlIxd d => Sys2Proof.Machine.execRlIxd d s
  | .rlIyd d => Sys2Proof.Machine.execRlIyd d s
  | .rrR r => Sys2Proof.Machine.execRrR r s
  | .rrAtHl => Sys2Proof.Machine.execRrAtHl s
  | .rrIxd d => Sys2Proof.Machine.execRrIxd d s
  | .rrIyd d => Sys2Proof.Machine.execRrIyd d s
  | .slaR r => Sys2Proof.Machine.execSlaR r s
  | .slaAtHl => Sys2Proof.Machine.execSlaAtHl s
  | .slaIxd d => Sys2Proof.Machine.execSlaIxd d s
  | .slaIyd d => Sys2Proof.Machine.execSlaIyd d s
  | .sraR r => Sys2Proof.Machine.execSraR r s
  | .sraAtHl => Sys2Proof.Machine.execSraAtHl s
  | .sraIxd d => Sys2Proof.Machine.execSraIxd d s
  | .sraIyd d => Sys2Proof.Machine.execSraIyd d s
  | .sllR r => Sys2Proof.Machine.execSllR r s
  | .sllAtHl => Sys2Proof.Machine.execSllAtHl s
  | .sllIxd d => Sys2Proof.Machine.execSllIxd d s
  | .sllIyd d => Sys2Proof.Machine.execSllIyd d s
  | .srlR r => Sys2Proof.Machine.execSrlR r s
  | .srlAtHl => Sys2Proof.Machine.execSrlAtHl s
  | .srlIxd d => Sys2Proof.Machine.execSrlIxd d s
  | .srlIyd d => Sys2Proof.Machine.execSrlIyd d s
  | .bitR b r => Sys2Proof.Machine.execBitR b r s
  | .bitAtHl b => Sys2Proof.Machine.execBitAtHl b s
  | .bitIxd b d => Sys2Proof.Machine.execBitIxd b d s
  | .bitIyd b d => Sys2Proof.Machine.execBitIyd b d s
  | .resR b r => Sys2Proof.Machine.execResR b r s
  | .resAtHl b => Sys2Proof.Machine.execResAtHl b s
  | .resIxd b d => Sys2Proof.Machine.execResIxd b d s
  | .resIyd b d => Sys2Proof.Machine.execResIyd b d s
  | .setR b r => Sys2Proof.Machine.execSetR b r s
  | .setAtHl b => Sys2Proof.Machine.execSetAtHl b s
  | .setIxd b d => Sys2Proof.Machine.execSetIxd b d s
  | .setIyd b d => Sys2Proof.Machine.execSetIyd b d s
  | .rld => Sys2Proof.Machine.execRld s
  | .rrd => Sys2Proof.Machine.execRrd s
  | .jpNn nn => Sys2Proof.Machine.execJpNn nn s
  | .jpCcNn cc nn => Sys2Proof.Machine.execJpCcNn cc nn s
  | .jrE e => Sys2Proof.Machine.execJrE e s
  | .jrCcE cc e => Sys2Proof.Machine.execJrCcE cc e s
  | .djnzE e => Sys2Proof.Machine.execDjnzE e s
  | .jpHl => Sys2Proof.Machine.execJpHl s
  | .jpIx => Sys2Proof.Machine.execJpIx s
  | .jpIy => Sys2Proof.Machine.execJpIy s
  | .callNn nn => Sys2Proof.Machine.execCallNn nn s
  | .callCcNn cc nn => Sys2Proof.Machine.execCallCcNn cc nn s
  | .ret => Sys2Proof.Machine.execRet s
  | .retCc cc => Sys2Proof.Machine.execRetCc cc s
  | .reti => Sys2Proof.Machine.execReti s
  | .retn => Sys2Proof.Machine.execRetn s
  | .rst p => Sys2Proof.Machine.execRst p s
  | .inAN n => Sys2Proof.Machine.execInAN n s
  | .inRC r => Sys2Proof.Machine.execInRC r s
  | .outNA n => Sys2Proof.Machine.execOutNA n s
  | .outCR r => Sys2Proof.Machine.execOutCR r s
  | .ini => Sys2Proof.Machine.execIni s
  | .inir => Sys2Proof.Machine.execInir s
  | .ind => Sys2Proof.Machine.execInd s
  | .indr => Sys2Proof.Machine.execIndr s
  | .outi => Sys2Proof.Machine.execOuti s
  | .otir => Sys2Proof.Machine.execOtir s
  | .outd => Sys2Proof.Machine.execOutd s
  | .otdr => Sys2Proof.Machine.execOtdr s
  | .nop => Sys2Proof.Machine.execNop s
  | .halt => Sys2Proof.Machine.execHalt s
  | .di => Sys2Proof.Machine.execDi s
  | .ei => Sys2Proof.Machine.execEi s
  | .im0 => Sys2Proof.Machine.execIm0 s
  | .im1 => Sys2Proof.Machine.execIm1 s
  | .im2 => Sys2Proof.Machine.execIm2 s

end Sys2Proof.Machine
end

