-- ==== Sys2Proof/Machine/Render.lean ====
section
/-! DEFINITION. The VDP's display: the table bases (48_vdp.md R804), the display mode (R820), the two background line
renderers (R840, R841), the sprite engine (R842 to R848), the range check (R849), `plot` (R850), and the scanline tick
(R830 to R835). -/

namespace Sys2Proof.Machine

/-! ## Tables and modes -/

/-- `displayMode()` (R820). -/
inductive DisplayMode where
  | g1
  | g2
  /-- "the raw combined bit pattern": no renderer. -/
  | other (raw : BitVec 3)
deriving DecidableEq, Repr

/-- `raw = M1 ++ M2 ++ M3` with M1 = VR[1][4], M2 = VR[1][3], M3 = VR[0][1] (R820). -/
def VdpRegs.rawMode (vr : VdpRegs) : BitVec 3 :=
  BitVec.ofNat 3 (4 * (vr.r1.getLsbD 4).toNat + 2 * (vr.r1.getLsbD 3).toNat + (vr.r0.getLsbD 1).toNat)

/-- The remapping of the raw bits: 000 is Graphics I, 001 Graphics II (R820). -/
def VdpRegs.displayMode (vr : VdpRegs) : DisplayMode :=
  if vr.rawMode = 0 then .g1
  else if vr.rawMode = 1 then .g2
  else .other vr.rawMode

/-- `NT = (VR[2] & 0x7F) << 10` (R804). -/
def VdpRegs.nameTable (vr : VdpRegs) : Nat := (vr.r2 &&& 0x7F).toNat * 0x400

/-- `CT` in Graphics I: `VR[3] << 6` (R804). -/
def VdpRegs.colourTable1 (vr : VdpRegs) : Nat := vr.r3.toNat * 0x40

/-- `CT` in Graphics II: `(VR[3] & 0x80) << 6` (R804). -/
def VdpRegs.colourTable2 (vr : VdpRegs) : Nat := (vr.r3 &&& 0x80).toNat * 0x40

/-- `PT` in Graphics I: `(VR[4] & 0x07) << 11` (R804). -/
def VdpRegs.patternTable1 (vr : VdpRegs) : Nat := (vr.r4 &&& 0x07).toNat * 0x800

/-- `PT` in Graphics II: `(VR[4] & 0x04) << 11` (R804). -/
def VdpRegs.patternTable2 (vr : VdpRegs) : Nat := (vr.r4 &&& 0x04).toNat * 0x800

/-- `SA = (VR[5] & 0x7F) << 7` (R804). -/
def VdpRegs.spriteAttributes (vr : VdpRegs) : Nat := (vr.r5 &&& 0x7F).toNat * 0x80

/-- `SP = (VR[6] & 0x07) << 11` (R804). -/
def VdpRegs.spritePatterns (vr : VdpRegs) : Nat := (vr.r6 &&& 0x07).toNat * 0x800

/-- The backdrop colour `VR[7][3:0]` (R856). -/
def VdpRegs.backdrop (vr : VdpRegs) : BitVec 4 := vr.r7.extractLsb' 0 4

/-- `VR[1].SIZE` (R123). -/
def VdpRegs.large (vr : VdpRegs) : Bool := vr.r1.getLsbD 1

/-- `VR[1].MAG`: bit set = magnify (R845). -/
def VdpRegs.magnify (vr : VdpRegs) : Bool := vr.r1.getLsbD 0

/-- `VR[1].IE` (R834). -/
def VdpRegs.interruptEnable (vr : VdpRegs) : Bool := vr.r1.getLsbD 5

/-- A renderer's read of VRAM: nothing at or above 0x4000 (R849). -/
def Vdp.fetch (v : Vdp) (a : Nat) : Except Nat Byte :=
  if a < Config.vramSize then .ok (Vram.read v.vram a) else .error a

/-! ## Drawing -/

/-- What drawing a line changes: the frame buffer and the event list (R800). -/
structure Canvas where
  fb : List Host.Cell
  log : List Event
deriving DecidableEq, Repr

/-- `Log(VdpRange, address)` (R849). -/
def Canvas.skip (k : Canvas) (address : Nat) : Canvas := { k with log := k.log ++ [.vdpRange address] }

/-- `plot(x, L, c)`: three bytes of the frame buffer; colour 0 is the backdrop (R850, R856). -/
def Canvas.plot (k : Canvas) (vr : VdpRegs) (x L : Nat) (c : BitVec 4) : Canvas :=
  let colour := if c = 0 then vr.backdrop else c
  let (r, g, b) := Params.palette colour
  let o := FrameBuffer.offset x (L - Params.vdpStartLine)
  { k with fb := FrameBuffer.write (FrameBuffer.write (FrameBuffer.write k.fb o r) (o + 1) g) (o + 2) b }

/-- Eight pixels of a column, left to right, bit 7 first; the high nibble of `colour` on set bits (R840, R841). -/
def Canvas.plotColumn (k : Canvas) (vr : VdpRegs) (col L : Nat) (bits colour : Byte) : Canvas :=
  (List.range 8).foldl
    (fun k b =>
      k.plot vr (col * 8 + b) L
        (if bits.getLsbD (7 - b) then colour.extractLsb' 4 4 else colour.extractLsb' 0 4)) k

/-- The address of the name of column `col` on line `L`: `NT + (L >> 3) * 32 + col` (R840, R841). -/
def nameAddr (vr : VdpRegs) (L col : Nat) : Nat := vr.nameTable + L / 8 * 32 + col

/-- The pattern and colour addresses of a name on line `L` in Graphics I (R840). -/
def g1Addrs (vr : VdpRegs) (L : Nat) (name : Byte) : Nat × Nat :=
  (vr.patternTable1 + name.toNat * 8 + L % 8, vr.colourTable1 + name.toNat / 8)

/-- The pattern and colour addresses of a name on line `L` in Graphics II, by the vertical third `L[7:6]` (R841). -/
def g2Addrs (vr : VdpRegs) (L : Nat) (name : Byte) : Nat × Nat :=
  let third := L / 64 % 4
  (vr.patternTable2 + third * 0x800 + name.toNat * 8 + L % 8,
   vr.colourTable2 + third * 0x800 + name.toNat * 8 + L % 8)

/-- The pattern row and colour byte of column `col`, or the first address out of range (R840, R841, R849; log 11). -/
def Vdp.columnBytes (v : Vdp) (addrs : VdpRegs → Nat → Byte → Nat × Nat) (L col : Nat) : Except Nat (Byte × Byte) := do
  let name ← v.fetch (nameAddr v.vr L col)
  let bits ← v.fetch (addrs v.vr L name).1
  let colour ← v.fetch (addrs v.vr L name).2
  return (bits, colour)

/-- One 8-pixel column of a background line; out of range, the draw is skipped and logged (R840, R841, R849). -/
def Vdp.drawColumn (v : Vdp) (addrs : VdpRegs → Nat → Byte → Nat × Nat) (L : Nat) (k : Canvas) (col : Nat) : Canvas :=
  match v.columnBytes addrs L col with
  | .ok (bits, colour) => k.plotColumn v.vr col L bits colour
  | .error a => k.skip a

/-- The 32 columns of a background line. -/
def Vdp.drawBackground (v : Vdp) (addrs : VdpRegs → Nat → Byte → Nat × Nat) (L : Nat) (k : Canvas) : Canvas :=
  (List.range 32).foldl (v.drawColumn addrs L) k

/-! ## Sprites -/

/-- `size`: 16 when SIZE is set, else 8 (R843, R845). -/
def VdpRegs.spriteSize (vr : VdpRegs) : Nat := if vr.large then 16 else 8

/-- The shift of magnification: 1 when MAG is set (R843). -/
def VdpRegs.spriteShift (vr : VdpRegs) : Nat := vr.magnify.toNat

/-- `h = size << mag` (R843). -/
def VdpRegs.spriteHeight (vr : VdpRegs) : Nat := vr.spriteSize * 2 ^ vr.spriteShift

/-- `Ys`: a Y byte above `256 - h` stands for `Y - 256` (R843, R844). -/
def VdpRegs.spriteY (vr : VdpRegs) (y : Byte) : Int :=
  if y.toNat > 256 - vr.spriteHeight then (y.toNat : Int) - 256 else y.toNat

/-- Visible on line `L`: `Ys + 1 <= L < Ys + h` (R843, R844). -/
def VdpRegs.spriteVisible (vr : VdpRegs) (y : Byte) (L : Nat) : Bool :=
  decide (vr.spriteY y + 1 ≤ (L : Int)) && decide ((L : Int) < vr.spriteY y + vr.spriteHeight)

/-- The address of byte `k` of attribute entry `i`: `SA + 4*i + k` (R842). -/
def VdpRegs.spriteEntry (vr : VdpRegs) (i k : Nat) : Nat := vr.spriteAttributes + 4 * i + k

/-- What the scan of a line finds (R843). -/
structure SpriteScan where
  /-- The indices of the visible sprites, at most four, in scan order. -/
  visible : List Nat
  /-- `last`. -/
  last : Nat
  overflow : Bool
  /-- Addresses out of range (R849). -/
  skipped : List Nat
deriving DecidableEq, Repr

/-- The scan over the entries still to be examined (R843). -/
def Vdp.scanFrom (v : Vdp) (L : Nat) (acc : SpriteScan) : List Nat → SpriteScan
  | [] => acc
  | i :: rest =>
    match v.fetch (v.vr.spriteEntry i 0) with
    | .error a => v.scanFrom L { acc with last := i, skipped := acc.skipped ++ [a] } rest
    | .ok y =>
      if y = Config.spriteTerminator then { acc with last := i }
      else if v.vr.spriteVisible y L then
        if acc.visible.length = Config.spritesPerLine then { acc with last := i, overflow := true }
        else v.scanFrom L { acc with visible := acc.visible ++ [i], last := i } rest
      else v.scanFrom L { acc with last := i } rest

/-- The scan of line `L`: entries 0 to 31 (R843). -/
def Vdp.scanSprites (v : Vdp) (L : Nat) : SpriteScan :=
  v.scanFrom L ⟨[], 0, false, []⟩ (List.range Config.sprites)

/-- `VS` after the scan: OV and the fifth sprite's index, or the last index examined (R843). -/
def SpriteScan.status (scan : SpriteScan) (vs : Byte) : Byte :=
  (vs &&& 0xE0) ||| (if scan.overflow then 0x40 else 0x00) ||| BitVec.ofNat 8 scan.last

/-- What a visible sprite draws on a line: the columns 0..255 its set bits cover, left to right, and its colour. -/
structure SpriteRow where
  columns : List Nat
  colour : BitVec 4
deriving DecidableEq, Repr

/-- The pattern row `r` of a sprite: 8 bits, or 16 bits of which the right half lies 16 bytes on (R846). -/
def Vdp.spriteBits (v : Vdp) (name : Byte) (r : Nat) : Except Nat (BitVec 16) :=
  if v.vr.large then do
    let base := v.vr.spritePatterns + (name &&& 0xFC).toNat * 8
    let left ← v.fetch (base + r)
    let right ← v.fetch (base + 16 + r)
    return Bits.pair left right
  else do
    let bits ← v.fetch (v.vr.spritePatterns + name.toNat * 8 + r)
    return Bits.zext bits

/-- The columns `x` in 0..255 at which a set pattern bit falls: `bits[w - 1 - (k >> mag)]` at `Xs + k` (R846). -/
def spriteColumns (bits : BitVec 16) (w shift : Nat) (xs : Int) : List Nat :=
  (List.range (w * 2 ^ shift)).filterMap fun (k : Nat) =>
    let x : Int := xs + (k : Int)
    if bits.getLsbD (w - 1 - k / 2 ^ shift) && decide (0 ≤ x) && decide (x ≤ 255) then some x.toNat else none

/-- `Xs`: 32 less with the early clock (R846). -/
def spriteX (x attr : Byte) : Int :=
  if attr.getLsbD 7 then (x.toNat : Int) - Params.earlyClockOffset else x.toNat

/-- What visible sprite `i` draws on line `L`, or the first address out of range (R842, R846, R849). -/
def Vdp.spriteRow (v : Vdp) (L i : Nat) : Except Nat SpriteRow := do
  let y ← v.fetch (v.vr.spriteEntry i 0)
  let x ← v.fetch (v.vr.spriteEntry i 1)
  let name ← v.fetch (v.vr.spriteEntry i 2)
  let attr ← v.fetch (v.vr.spriteEntry i 3)
  let r := ((L : Int) - (v.vr.spriteY y + 1)).toNat / 2 ^ v.vr.spriteShift
  let bits ← v.spriteBits name r
  return ⟨spriteColumns bits v.vr.spriteSize v.vr.spriteShift (spriteX x attr), attr.extractLsb' 0 4⟩

/-- The rows of the visible sprites, in the order given, and the addresses out of range. -/
def Vdp.spriteRows (v : Vdp) (L : Nat) : List Nat → List SpriteRow × List Nat
  | [] => ([], [])
  | i :: rest =>
    let (rows, skipped) := v.spriteRows L rest
    match v.spriteRow L i with
    | .ok row => (row :: rows, skipped)
    | .error a => (rows, a :: skipped)

/-- Some column is marked by two or more of the rows (R848). -/
def spritesCollide : List SpriteRow → Bool
  | [] => false
  | row :: rest =>
    row.columns.any (fun x => rest.any fun other => other.columns.contains x) || spritesCollide rest

/-- One sprite's pixels; colour 0 is not drawn (R846). -/
def Canvas.plotSprite (k : Canvas) (vr : VdpRegs) (L : Nat) (row : SpriteRow) : Canvas :=
  if row.colour ≠ 0 ∧ Params.renderGate then row.columns.foldl (fun k x => k.plot vr x L row.colour) k else k

/-! ## The tick -/

/-- The VDP and its canvas after a line's background: Graphics I or II, or `modeFault` (R821, R831, R832). -/
def Vdp.background (v : Vdp) (L : Nat) (k : Canvas) : Vdp × Canvas :=
  match v.vr.displayMode with
  | .g1 => (v, if Params.renderGate then v.drawBackground g1Addrs L k else k)
  | .g2 => (v, if Params.renderGate then v.drawBackground g2Addrs L k else k)
  | .other _ => ({ v with modeFault := true }, k)

/-- `spriteLine(L)`: the scan, the drawing from the highest visible index to the lowest, and the collision (R843 to R848). -/
def Vdp.sprites (v : Vdp) (L : Nat) (k : Canvas) : Vdp × Canvas :=
  let scan := v.scanSprites L
  let (rows, skipped) := v.spriteRows L scan.visible.reverse
  let drawn := rows.foldl (fun k row => k.plotSprite v.vr L row) ((scan.skipped ++ skipped).foldl Canvas.skip k)
  ({ v with
     status := scan.status v.status
     collisionAcc := v.collisionAcc || spritesCollide rows }, drawn)

/-- `activeLine(L)`: the background, then the sprites; the events it appends (R831). -/
def Vdp.activeLine (v : Vdp) (L : Nat) : Vdp × List Event :=
  let (v1, k1) := v.background L ⟨v.fb, []⟩
  let (v2, k2) := v1.sprites L k1
  ({ v2 with fb := k2.fb }, k2.log)

/-- `VS` after the vblank line: VB set, COL set if it was clear and a coincidence was accumulated (R834, R835). -/
def Vdp.vblankStatus (v : Vdp) : Byte :=
  v.status ||| 0x80 ||| (if v.status.getLsbD 5 = false ∧ v.collisionAcc = true then 0x20 else 0x00)

/-- The vblank line requests an NMI: IE set and VB clear before it (R834). -/
def Vdp.requestsNmi (v : Vdp) : Bool := v.vr.interruptEnable && !v.status.getLsbD 7

/-- The VDP after `vblankLine()` (R834). -/
def Vdp.vblankLine (v : Vdp) : Vdp := { v with status := v.vblankStatus, collisionAcc := false }

/-- `(line + 1) mod 262` (R830). -/
def Vdp.nextLine (v : Vdp) : Nat := (v.line + 1) % Config.lines

/-- `tick()` (R830). -/
def State.tick (s : State) : State :=
  let v : Vdp := { s.vdp with line := s.vdp.nextLine }
  if Params.vdpStartLine ≤ v.line ∧ v.line ≤ Params.vdpEndLine then
    (s.setVdp (v.activeLine v.line).1).emit (v.activeLine v.line).2
  else if v.line = Params.vdpEndLine + 1 then
    (s.setVdp v.vblankLine).setNmiPending (s.nmiPending || v.requestsNmi)
  else s.setVdp v

end Sys2Proof.Machine
end

