-- ==== Sys2Proof/Machine/System.lean ====
section
/-! DEFINITION. One system step (60_exceptions.md R900, R901), construction and reset of a running machine
(70_reset_and_hazards.md R1000, R1004), and placing bytes in memory. -/

namespace Sys2Proof.Machine

/-! ## The CPU step (R900) -/

/-- Priority 2, a maskable interrupt: the mode-1 entry, or the fault of modes 0 and 2 (R911, R912). -/
def State.maskableStep (s : State) : State :=
  if s.im = .im1 then s.acceptIm1 else s.raiseFault (.unsupportedInterruptMode s.im s.pc)

/-- Priority 3, halted: no fetch, no refresh (R900, R932). -/
def State.idleStep (s : State) : State := s.withCost Params.haltIdleCost

/-- Priority 4: decode at `pc` and execute, or the fault of an encoding outside the admitted set (R302, R921, R923). -/
def State.fetchStep (s : State) : Result :=
  match s.decodeAtPc with
  | .ok i => exec i (s.afterFetch i)
  | .error reject => .next (s.raiseFault (.unimplementedOpcode s.pc reject.bytes))

/-- `step()` in a state without a fault, by its priorities (R900, R913). -/
def State.cpuStep (s : State) : Result :=
  if s.nmiPending then .next s.acceptNmi
  else if s.host.int && s.iff1 then .next s.maskableStep
  else if s.halted then .next s.idleStep
  else s.fetchStep

/-! ## The system step (R901) -/

/-- `periodCounter <- periodCounter - c`, and on exhaustion the reload and one VDP tick (R901, R930). -/
def State.updateTimeBase (s : State) : State :=
  let p := s.periodCounter - s.cost
  if p ≤ 0 then { s with periodCounter := p + Params.linePeriod }.tick else { s with periodCounter := p }

/-- The host's levels for the next step: the head of the plan, or unchanged where the plan is empty (R12, R943; log 1). -/
def State.nextInputs (s : State) : State :=
  match s.hostPlan with
  | [] => s
  | inputs :: rest => { s with host := inputs, hostPlan := rest }

/-- What follows the CPU step; nothing where it raised a fault (R901, R923). -/
def State.endStep (s : State) : State := if s.fault.isSome then s else s.updateTimeBase.nextInputs

/-- `systemStep()` (R901); a state with a fault answers `Stopped` (R920; log 4). -/
def State.systemStep (s : State) : Result :=
  match s.fault with
  | some record => .fault (.stopped record)
  | none =>
    match s.cpuStep with
    | .next t => .next t.endStep
    | .fault r => .fault r
    | .refused r => .refused r

/-! ## Host actions outside a step (log 16) -/

/-- Reset's effect on the VDP: the frame buffer keeps R, G and B and its alpha bytes become 255 (R1000). -/
def Vdp.resetFrom (v : Vdp) : Vdp := { Vdp.reset with fb := Cells.clear (fun o => o % 4 == 3) v.fb }

/-- `reset()` of a running machine: memory outside the RAM window, the colour bytes of the frame buffer and the host's
levels are kept, everything else is as in `State.reset` (R1000). -/
def State.resetFrom (s : State) : State :=
  { State.reset with
    vdp := s.vdp.resetFrom
    mem := Cells.clear Params.inRamWindow s.mem
    host := s.host
    hostPlan := s.hostPlan }

/-- Construction with a boot ROM and a cartridge image, then reset; an oversized image is refused (R1004). -/
def State.construct (boot cart : List Byte) : Option State :=
  if boot.length ≤ Config.bootRomMax ∧ cart.length ≤ Config.cartMax then
    some { State.reset with
      mem := Cells.load Memory.unlisted (Cells.load Memory.unlisted [] 0 boot) Config.cartBase cart }.resetFrom
  else none

/-- The state with bytes stored at `a`, `a + 1`, …, addresses modulo 2^16 (log 7). -/
def State.placeBytes (s : State) (a : Word) : List Byte → State
  | [] => s
  | v :: rest => (s.write a v).placeBytes (a + 1) rest

/-- Nothing that R900 puts before the fetch is left: no fault, no NMI, no request, not halted (log 7). -/
def State.readyToFetch (s : State) : State :=
  { s with fault := none, nmiPending := false, halted := false, host := { s.host with int := false } }

end Sys2Proof.Machine
end

