-- ==== Sys2Proof/Machine/Step.lean ====
section
/-! DEFINITION. One step of the machine, and placing an instruction where the next step fetches it. -/

namespace Sys2Proof.Machine

/-- One step is one `systemStep()`, "the unit a model iterates" (60_exceptions.md R901). -/
def step (s : State) : Host.Outcome State Fault Refusal := s.systemStep

/-- `s` with the instruction of a table word at `pc`, zeros after it up to four bytes, ready to be fetched (log 5, log 7). -/
def State.withFetchWord (s : State) (nbits w : Nat) : State :=
  s.readyToFetch.placeBytes s.pc (((tableBytes (nbits / 8) w) ++ [0, 0, 0, 0]).take 4)

end Sys2Proof.Machine
end

