-- ==== Sys2Proof/Safety.lean ====
section
/-! DEFINITION. What the claims are stated in: the whole effect of an instruction on the state (what it writes and that it
writes nothing else), the forms of each instruction family over its operand and their costs, the machine's invariant, and
what an address of the screen and of the sprite engine means. -/

namespace Sys2Proof.Machine

/-! ## The effect of an instruction -/

/-- Every field of `State` but the two banks, `M` and `cost`. -/
structure Specials where
  afSel : Bool
  mainSel : Bool
  ix : Word
  iy : Word
  sp : Word
  pc : Word
  iReg : Byte
  rReg : Byte
  iff1 : Bool
  iff2 : Bool
  iff3 : Bool
  im : IntMode
  halted : Bool
  nmiPending : Bool
  fault : Option FaultRecord
  periodCounter : Int
  vdp : Vdp
  joyMode : JoyMode
  events : List Event
  host : HostInputs
  hostPlan : List HostInputs
deriving DecidableEq, Repr

/-- The fields of a state that `Specials` names. -/
def State.specials (s : State) : Specials where
  afSel := s.afSel
  mainSel := s.mainSel
  ix := s.ix
  iy := s.iy
  sp := s.sp
  pc := s.pc
  iReg := s.iReg
  rReg := s.rReg
  iff1 := s.iff1
  iff2 := s.iff2
  iff3 := s.iff3
  im := s.im
  halted := s.halted
  nmiPending := s.nmiPending
  fault := s.fault
  periodCounter := s.periodCounter
  vdp := s.vdp
  joyMode := s.joyMode
  events := s.events
  host := s.host
  hostPlan := s.hostPlan

/-- The state with one register of one physical bank replaced, whichever the selectors choose. -/
def State.setPhysical (s : State) (bank : Bool) (q : RegName) (v : Byte) : State :=
  { s with
    bank0 := if bank then s.bank0 else s.bank0.set q v
    bank1 := if bank then s.bank1.set q v else s.bank1 }

/-- The specials with IX or IY replaced. -/
def Specials.withIndex (x : Specials) (xy : Index) (v : Word) : Specials :=
  match xy with
  | .ix => { x with ix := v }
  | .iy => { x with iy := v }

/-- A whole effect: the registers written (in the banks the selectors choose before it), the bytes stored, every other
field afterwards, and the cost. -/
structure Effect where
  regs : List (RegName × Byte)
  stores : List (Word × Byte)
  specials : Specials
  cost : Nat
deriving DecidableEq, Repr

/-- From `s` to `t` exactly this effect happened: every register named holds its value and every other register of both
banks is as before; every byte stored reads as stored and every other byte of memory as before; every other field is as
given. -/
def Effect.Holds (e : Effect) (s t : State) : Prop :=
  t.cost = e.cost ∧ t.specials = e.specials ∧
  (∀ w ∈ e.regs, t.physical (s.selector w.1) w.1 = w.2) ∧
  (∀ bank q, (bank = s.selector q → q ∉ e.regs.map Prod.fst) → t.physical bank q = s.physical bank q) ∧
  (∀ w ∈ e.stores, t.read w.1 = w.2) ∧
  (∀ a, a ∉ e.stores.map Prod.fst → t.read a = s.read a)

end Sys2Proof.Machine

namespace Sys2Proof

open Machine

/-- The register writes of a pair: high half, low half. `SP` is no register of a bank. -/
def Rp.regs (rr : Rp) (v : Word) : List (RegName × Byte) :=
  match rr with
  | .bc => [(.b, Bits.hi v), (.c, Bits.lo v)]
  | .de => [(.d, Bits.hi v), (.e, Bits.lo v)]
  | .hl => [(.h, Bits.hi v), (.l, Bits.lo v)]
  | .sp => []

/-- The specials after writing a pair: only `SP` is one of them. -/
def Rp.specials (rr : Rp) (v : Word) (x : Specials) : Specials :=
  match rr with
  | .sp => { x with sp := v }
  | .bc => x
  | .de => x
  | .hl => x

/-- The register writes of a `PUSH`/`POP` pair. -/
def Qq.regs (qq : Qq) (v : Word) : List (RegName × Byte) :=
  match qq with
  | .bc => [(.b, Bits.hi v), (.c, Bits.lo v)]
  | .de => [(.d, Bits.hi v), (.e, Bits.lo v)]
  | .hl => [(.h, Bits.hi v), (.l, Bits.lo v)]
  | .af => [(.a, Bits.hi v), (.f, Bits.lo v)]

end Sys2Proof

namespace Sys2Proof.Machine

/-- The two bytes of a word stored at `a`, low byte first. -/
def wordAt (a v : Word) : List (Word × Byte) := [(a, Bits.lo v), (a + 1, Bits.hi v)]

/-- The two bytes a push of `v` stores below `sp`. -/
def pushedAt (sp v : Word) : List (Word × Byte) := [(sp - 1, Bits.hi v), (sp - 2, Bits.lo v)]

/-- What writing `v` to the operand `m` writes in a bank. -/
def State.locRegs (_ : State) (m : Loc) (v : Byte) : List (RegName × Byte) :=
  match m with
  | .reg r => [(r.name, v)]
  | .atHl => []
  | .indexed _ _ => []

/-- What writing `v` to the operand `m` stores in memory: at the address the form computes. -/
def State.locStores (s : State) (m : Loc) (v : Byte) : List (Word × Byte) :=
  match s.locAddr m with
  | some a => [(a, v)]
  | none => []

/-! ## The forms of an instruction, by its operand (30_encoding.md R308, 43_alu8.md R543) -/

/-- `ADD A,s`. -/
def addForms : Src → Instr
  | .loc (.reg r) => .addR r
  | .loc .atHl => .addAtHl
  | .loc (.indexed .ix d) => .addIxd d
  | .loc (.indexed .iy d) => .addIyd d
  | .imm n => .addN n

/-- `ADC A,s`. -/
def adcForms : Src → Instr
  | .loc (.reg r) => .adcR r
  | .loc .atHl => .adcAtHl
  | .loc (.indexed .ix d) => .adcIxd d
  | .loc (.indexed .iy d) => .adcIyd d
  | .imm n => .adcN n

/-- `SUB s`. -/
def subForms : Src → Instr
  | .loc (.reg r) => .subR r
  | .loc .atHl => .subAtHl
  | .loc (.indexed .ix d) => .subIxd d
  | .loc (.indexed .iy d) => .subIyd d
  | .imm n => .subN n

/-- `SBC A,s`. -/
def sbcForms : Src → Instr
  | .loc (.reg r) => .sbcR r
  | .loc .atHl => .sbcAtHl
  | .loc (.indexed .ix d) => .sbcIxd d
  | .loc (.indexed .iy d) => .sbcIyd d
  | .imm n => .sbcN n

/-- `AND s`. -/
def andForms : Src → Instr
  | .loc (.reg r) => .andR r
  | .loc .atHl => .andAtHl
  | .loc (.indexed .ix d) => .andIxd d
  | .loc (.indexed .iy d) => .andIyd d
  | .imm n => .andN n

/-- `XOR s`. -/
def xorForms : Src → Instr
  | .loc (.reg r) => .xorR r
  | .loc .atHl => .xorAtHl
  | .loc (.indexed .ix d) => .xorIxd d
  | .loc (.indexed .iy d) => .xorIyd d
  | .imm n => .xorN n

/-- `OR s`. -/
def orForms : Src → Instr
  | .loc (.reg r) => .orR r
  | .loc .atHl => .orAtHl
  | .loc (.indexed .ix d) => .orIxd d
  | .loc (.indexed .iy d) => .orIyd d
  | .imm n => .orN n

/-- `CP s`. -/
def cpForms : Src → Instr
  | .loc (.reg r) => .cpR r
  | .loc .atHl => .cpAtHl
  | .loc (.indexed .ix d) => .cpIxd d
  | .loc (.indexed .iy d) => .cpIyd d
  | .imm n => .cpN n

/-- `INC m`. -/
def incForms : Loc → Instr
  | .reg r => .incR r
  | .atHl => .incAtHl
  | .indexed .ix d => .incIxd d
  | .indexed .iy d => .incIyd d

/-- `DEC m`. -/
def decForms : Loc → Instr
  | .reg r => .decR r
  | .atHl => .decAtHl
  | .indexed .ix d => .decIxd d
  | .indexed .iy d => .decIyd d

/-- `RLC m`. -/
def rlcForms : Loc → Instr
  | .reg r => .rlcR r
  | .atHl => .rlcAtHl
  | .indexed .ix d => .rlcIxd d
  | .indexed .iy d => .rlcIyd d

/-- `RRC m`. -/
def rrcForms : Loc → Instr
  | .reg r => .rrcR r
  | .atHl => .rrcAtHl
  | .indexed .ix d => .rrcIxd d
  | .indexed .iy d => .rrcIyd d

/-- `RL m`. -/
def rlForms : Loc → Instr
  | .reg r => .rlR r
  | .atHl => .rlAtHl
  | .indexed .ix d => .rlIxd d
  | .indexed .iy d => .rlIyd d

/-- `RR m`. -/
def rrForms : Loc → Instr
  | .reg r => .rrR r
  | .atHl => .rrAtHl
  | .indexed .ix d => .rrIxd d
  | .indexed .iy d => .rrIyd d

/-- `SLA m`. -/
def slaForms : Loc → Instr
  | .reg r => .slaR r
  | .atHl => .slaAtHl
  | .indexed .ix d => .slaIxd d
  | .indexed .iy d => .slaIyd d

/-- `SRA m`. -/
def sraForms : Loc → Instr
  | .reg r => .sraR r
  | .atHl => .sraAtHl
  | .indexed .ix d => .sraIxd d
  | .indexed .iy d => .sraIyd d

/-- `SLL m`. -/
def sllForms : Loc → Instr
  | .reg r => .sllR r
  | .atHl => .sllAtHl
  | .indexed .ix d => .sllIxd d
  | .indexed .iy d => .sllIyd d

/-- `SRL m`. -/
def srlForms : Loc → Instr
  | .reg r => .srlR r
  | .atHl => .srlAtHl
  | .indexed .ix d => .srlIxd d
  | .indexed .iy d => .srlIyd d

/-- `BIT b,m`. -/
def bitForms (b : Fin 8) : Loc → Instr
  | .reg r => .bitR b r
  | .atHl => .bitAtHl b
  | .indexed .ix d => .bitIxd b d
  | .indexed .iy d => .bitIyd b d

/-- `RES b,m`. -/
def resForms (b : Fin 8) : Loc → Instr
  | .reg r => .resR b r
  | .atHl => .resAtHl b
  | .indexed .ix d => .resIxd b d
  | .indexed .iy d => .resIyd b d

/-- `SET b,m`. -/
def setForms (b : Fin 8) : Loc → Instr
  | .reg r => .setR b r
  | .atHl => .setAtHl b
  | .indexed .ix d => .setIxd b d
  | .indexed .iy d => .setIyd b d

/-- The CB rotate or shift of the rot-table's operation on `m`. -/
def rotForms (op : RotOp) (m : Loc) : Instr :=
  match op with
  | .rlc => rlcForms m
  | .rrc => rrcForms m
  | .rl => rlForms m
  | .rr => rrForms m
  | .sla => slaForms m
  | .sra => sraForms m
  | .sll => sllForms m
  | .srl => srlForms m

/-! ## The cost of a form, by its operand: the values the statements give -/

/-- The cost of an ALU instruction by its operand form (R543). -/
def Src.aluCost : Src → Nat
  | .loc (.reg _) => 4
  | .loc .atHl => 7
  | .loc (.indexed _ _) => 19
  | .imm _ => 7

/-- The cost of `INC m` and `DEC m` (R552, R553). -/
def Loc.incCost : Loc → Nat
  | .reg _ => 4
  | .atHl => 11
  | .indexed _ _ => 23

/-- The cost of a CB rotate or shift, `RES` and `SET` (R646 to R653, R655, R656). -/
def Loc.rotCost : Loc → Nat
  | .reg _ => 8
  | .atHl => 15
  | .indexed _ _ => 23

/-- The cost of `BIT` (R654). -/
def Loc.bitCost : Loc → Nat
  | .reg _ => 8
  | .atHl => 12
  | .indexed _ _ => 20

/-! ## The machine's invariant -/

/-- Every stored VDP register lies under its mask (10_state.md R122). -/
abbrev VdpRegs.Masked (vr : VdpRegs) : Prop := ∀ n, vr.get n &&& Params.vdpRegMask n = vr.get n

/-- What holds after reset and is kept by every step. -/
structure State.Inv (s : State) : Prop where
  /-- `M` keeps its canonical form (R200). -/
  mem : Memory.wf s.mem = true
  /-- VRAM keeps its canonical form (R128). -/
  vram : Vram.wf s.vdp.vram = true
  /-- The frame buffer keeps its canonical form (R131). -/
  fb : FrameBuffer.wf s.vdp.fb = true
  /-- "a register's stored value never has bits set outside its mask" (R122). -/
  masked : s.vdp.vr.Masked
  /-- The line counter is in 0..261 (R129). -/
  line : s.vdp.line < Config.lines
  /-- Between steps some T-states are left before the next tick, at most a line's (R901, R930). -/
  period : 1 ≤ s.periodCounter ∧ s.periodCounter ≤ Params.linePeriod
  /-- "alpha fixed at 255" (R131). -/
  alpha : ∀ x y, FrameBuffer.read s.vdp.fb (FrameBuffer.offset x y + 3) = 255
  /-- No out-of-range entry was ever logged (R849, R926). -/
  inRange : ∀ a, Event.vdpRange a ∉ s.events

/-! ## The screen (48_vdp.md R840, R841, R850, R856) -/

/-- The colour a background nibble shows: 0 is the backdrop. -/
def VdpRegs.shown (vr : VdpRegs) (c : BitVec 4) : BitVec 4 := if c = 0 then vr.backdrop else c

/-- The colour nibble of background pixel (x, L): the high nibble of the cell's colour byte where the pattern row's bit is
set, else the low one. -/
def backgroundNibble (bits colour : Byte) (x : Nat) : BitVec 4 :=
  if bits.getLsbD (7 - x % 8) then colour.extractLsb' 4 4 else colour.extractLsb' 0 4

/-- Pixel (x, y) shows palette entry `c`, alpha 255. -/
def ShowsColour (fb : List Host.Cell) (x y : Nat) (c : BitVec 4) : Prop :=
  FrameBuffer.pixel fb x y = ((Params.palette c).1, (Params.palette c).2.1, (Params.palette c).2.2, 255)

/-- Entry `i` is visible on line `L` (R843, R844). -/
def Vdp.isVisible (v : Vdp) (L i : Nat) : Bool :=
  v.vr.spriteVisible (Vram.read v.vram (v.vr.spriteEntry i 0)) L

end Sys2Proof.Machine
end

