-- ==== Sys2Proof/Certificates/Slice0/Obligations.lean ====
section
/-! DEFINITION. The statements about the machine, from the numbered rules of spec/. An instruction's statement says that
`exec` answers a next state and gives the whole effect (Safety.lean): the registers, the bytes stored, every other field
and the cost, and that nothing else changed. `pc` in `s` is already past the instruction (30_encoding.md R302; log 10). A
cost in T-states is the one the instruction's rule gives, the default of the spec's parameter `COST` (00_scope.md R11, D2;
log 8). -/

open Sys2Proof Sys2Proof.Machine

/-! ## The arithmetic of the flags -/

/-- R540: `add8` is the exact sum; carry is unsigned overflow, half-carry the carry out of bit 3, PV signed overflow. -/
def Obligations.AddEight : Prop :=
  ∀ (a b : Byte) (c : Bool),
    (add8 a b c).1.toNat = (a.toNat + b.toNat + c.toNat) % 256 ∧
    (add8 a b c).2.s = (add8 a b c).1.getLsbD 7 ∧
    ((add8 a b c).2.z = true ↔ (add8 a b c).1 = 0) ∧
    (add8 a b c).2.f5 = (add8 a b c).1.getLsbD 5 ∧
    (add8 a b c).2.f3 = (add8 a b c).1.getLsbD 3 ∧
    ((add8 a b c).2.h = true ↔ a.toNat % 16 + b.toNat % 16 + c.toNat > 15) ∧
    ((add8 a b c).2.pv = true ↔ a.getLsbD 7 = b.getLsbD 7 ∧ (add8 a b c).1.getLsbD 7 ≠ a.getLsbD 7) ∧
    ((add8 a b c).2.pv = true ↔ a.toInt + b.toInt + c.toNat < -128 ∨ 127 < a.toInt + b.toInt + c.toNat) ∧
    (add8 a b c).2.n = false ∧
    ((add8 a b c).2.c = true ↔ a.toNat + b.toNat + c.toNat > 255)

/-- R541: `sub8` is the exact difference; carry is the unsigned borrow, half-carry the borrow into bit 3, PV signed
overflow. -/
def Obligations.SubEight : Prop :=
  ∀ (a b : Byte) (c : Bool),
    ((sub8 a b c).1.toNat : Int) = ((a.toNat : Int) - b.toNat - c.toNat) % 256 ∧
    (sub8 a b c).2.s = (sub8 a b c).1.getLsbD 7 ∧
    ((sub8 a b c).2.z = true ↔ (sub8 a b c).1 = 0) ∧
    (sub8 a b c).2.f5 = (sub8 a b c).1.getLsbD 5 ∧
    (sub8 a b c).2.f3 = (sub8 a b c).1.getLsbD 3 ∧
    ((sub8 a b c).2.h = true ↔ a.toNat % 16 < b.toNat % 16 + c.toNat) ∧
    ((sub8 a b c).2.pv = true ↔ a.toInt - b.toInt - c.toNat < -128 ∨ 127 < a.toInt - b.toInt - c.toNat) ∧
    (sub8 a b c).2.n = true ∧
    ((sub8 a b c).2.c = true ↔ a.toNat < b.toNat + c.toNat)

/-- R542: the flags of AND (`h` = 1), XOR and OR (`h` = 0); PV says an even number of set bits, which is what `parity` says of a
byte wherever a statement names it (R14). -/
def Obligations.LogicFlagBits : Prop :=
  ∀ (res : Byte) (h : Bool),
    (logicFlags res h).s = res.getLsbD 7 ∧
    ((logicFlags res h).z = true ↔ res = 0) ∧
    (logicFlags res h).f5 = res.getLsbD 5 ∧
    (logicFlags res h).h = h ∧
    (logicFlags res h).f3 = res.getLsbD 3 ∧
    ((logicFlags res h).pv = true ↔ Even (((List.range 8).filter fun i => res.getLsbD i).length)) ∧
    (logicFlags res h).n = false ∧
    (logicFlags res h).c = false ∧
    (Bits.parity res = true ↔ Even (((List.range 8).filter fun i => res.getLsbD i).length))

/-- The 16-bit additions and the subtraction of 44_alu16.md are exact modulo 2^16; half-carry is at bit 11, carry at bit 15,
PV is signed overflow, and `ADD` keeps S, Z, PV and N (N is the spec's own decision D16, its parameter `ADD16_N`, log 8). -/
def Obligations.SixteenBitArithmetic : Prop :=
  ∀ (a b : Word) (c : Bool) (old : Flags),
    ((add16 a b old).1.toNat = (a.toNat + b.toNat) % 65536 ∧
      (add16 a b old).2.s = old.s ∧ (add16 a b old).2.z = old.z ∧ (add16 a b old).2.pv = old.pv ∧
      (add16 a b old).2.n = old.n ∧
      ((add16 a b old).2.h = true ↔ a.toNat % 4096 + b.toNat % 4096 > 4095) ∧
      ((add16 a b old).2.c = true ↔ a.toNat + b.toNat > 65535) ∧
      (add16 a b old).2.f5 = (Bits.hi (add16 a b old).1).getLsbD 5 ∧
      (add16 a b old).2.f3 = (Bits.hi (add16 a b old).1).getLsbD 3) ∧
    ((adc16 a b c).1.toNat = (a.toNat + b.toNat + c.toNat) % 65536 ∧
      (adc16 a b c).2.s = (adc16 a b c).1.getLsbD 15 ∧
      ((adc16 a b c).2.z = true ↔ (adc16 a b c).1 = 0) ∧
      ((adc16 a b c).2.h = true ↔ a.toNat % 4096 + b.toNat % 4096 + c.toNat > 4095) ∧
      ((adc16 a b c).2.pv = true ↔ a.toInt + b.toInt + c.toNat < -32768 ∨ 32767 < a.toInt + b.toInt + c.toNat) ∧
      (adc16 a b c).2.n = false ∧
      ((adc16 a b c).2.c = true ↔ a.toNat + b.toNat + c.toNat > 65535) ∧
      (adc16 a b c).2.f5 = (Bits.hi (adc16 a b c).1).getLsbD 5 ∧
      (adc16 a b c).2.f3 = (Bits.hi (adc16 a b c).1).getLsbD 3) ∧
    (((sbc16 a b c).1.toNat : Int) = ((a.toNat : Int) - b.toNat - c.toNat) % 65536 ∧
      (sbc16 a b c).2.s = (sbc16 a b c).1.getLsbD 15 ∧
      ((sbc16 a b c).2.z = true ↔ (sbc16 a b c).1 = 0) ∧
      ((sbc16 a b c).2.h = true ↔ a.toNat % 4096 < b.toNat % 4096 + c.toNat) ∧
      ((sbc16 a b c).2.pv = true ↔ a.toInt - b.toInt - c.toNat < -32768 ∨ 32767 < a.toInt - b.toInt - c.toNat) ∧
      (sbc16 a b c).2.n = true ∧
      ((sbc16 a b c).2.c = true ↔ a.toNat < b.toNat + c.toNat) ∧
      (sbc16 a b c).2.f5 = (Bits.hi (sbc16 a b c).1).getLsbD 5 ∧
      (sbc16 a b c).2.f3 = (Bits.hi (sbc16 a b c).1).getLsbD 3)

/-- R640: every shuffle of the rot-table, bit by bit, and its carry out. -/
def Obligations.RotateShuffles : Prop :=
  ∀ (v : Byte) (c : Bool),
    ((shuffle .rlc v c).2 = v.getLsbD 7 ∧ (shuffle .rl v c).2 = v.getLsbD 7 ∧
      (shuffle .sla v c).2 = v.getLsbD 7 ∧ (shuffle .sll v c).2 = v.getLsbD 7 ∧
      (shuffle .rrc v c).2 = v.getLsbD 0 ∧ (shuffle .rr v c).2 = v.getLsbD 0 ∧
      (shuffle .sra v c).2 = v.getLsbD 0 ∧ (shuffle .srl v c).2 = v.getLsbD 0) ∧
    (∀ i < 7, (shuffle .rlc v c).1.getLsbD (i + 1) = v.getLsbD i ∧ (shuffle .rl v c).1.getLsbD (i + 1) = v.getLsbD i ∧
      (shuffle .sla v c).1.getLsbD (i + 1) = v.getLsbD i ∧ (shuffle .sll v c).1.getLsbD (i + 1) = v.getLsbD i ∧
      (shuffle .rrc v c).1.getLsbD i = v.getLsbD (i + 1) ∧ (shuffle .rr v c).1.getLsbD i = v.getLsbD (i + 1) ∧
      (shuffle .sra v c).1.getLsbD i = v.getLsbD (i + 1) ∧ (shuffle .srl v c).1.getLsbD i = v.getLsbD (i + 1)) ∧
    ((shuffle .rlc v c).1.getLsbD 0 = v.getLsbD 7 ∧ (shuffle .rl v c).1.getLsbD 0 = c ∧
      (shuffle .sla v c).1.getLsbD 0 = false ∧ (shuffle .sll v c).1.getLsbD 0 = true ∧
      (shuffle .rrc v c).1.getLsbD 7 = v.getLsbD 0 ∧ (shuffle .rr v c).1.getLsbD 7 = c ∧
      (shuffle .sra v c).1.getLsbD 7 = v.getLsbD 7 ∧ (shuffle .srl v c).1.getLsbD 7 = false)

/-- `DAA` after an 8-bit addition or subtraction of two valid BCD bytes leaves the BCD sum or difference modulo 100, its
decimal carry or borrow in C, and keeps N (43_alu8.md section 4). -/
def Obligations.DaaCorrectsDecimal : Prop :=
  ∀ (x y : Nat), x < 100 → y < 100 →
    let bcd (n : Nat) : Byte := BitVec.ofNat 8 (16 * (n / 10) + n % 10)
    let sum := add8 (bcd x) (bcd y) false
    let diff := sub8 (bcd x) (bcd y) false
    (daa8 sum.1 sum.2).1 = bcd ((x + y) % 100) ∧ ((daa8 sum.1 sum.2).2.c = true ↔ 100 ≤ x + y) ∧
    (daa8 sum.1 sum.2).2.n = false ∧
    (daa8 diff.1 diff.2).1 = bcd ((x + 100 - y) % 100) ∧ ((daa8 diff.1 diff.2).2.c = true ↔ x < y) ∧
    (daa8 diff.1 diff.2).2.n = true

/-- R695: the eight conditions, read from the F that `afSel` selects; and R110: F's bits from 7 to 0 are S Z 5 H 3 PV N C, as
the flags are read from F and as they are written to it. -/
def Obligations.ConditionCodes : Prop :=
  ∀ (s : State) (fl : Flags) (cc : Cond),
    s.flags = ⟨(s.reg .f).getLsbD 7, (s.reg .f).getLsbD 6, (s.reg .f).getLsbD 5, (s.reg .f).getLsbD 4,
      (s.reg .f).getLsbD 3, (s.reg .f).getLsbD 2, (s.reg .f).getLsbD 1, (s.reg .f).getLsbD 0⟩ ∧
    (List.range 8).map (fun k => (s.setFlags fl).reg .f |>.getLsbD k) =
      [fl.c, fl.n, fl.pv, fl.f3, fl.h, fl.f5, fl.z, fl.s] ∧
    (List.range 8).map fl.toByte.getLsbD = [fl.c, fl.n, fl.pv, fl.f3, fl.h, fl.f5, fl.z, fl.s] ∧
    s.flags.cond cc =
      match cc with
      | .nz => !(s.reg .f).getLsbD 6
      | .z => (s.reg .f).getLsbD 6
      | .nc => !(s.reg .f).getLsbD 0
      | .c => (s.reg .f).getLsbD 0
      | .po => !(s.reg .f).getLsbD 2
      | .pe => (s.reg .f).getLsbD 2
      | .p => !(s.reg .f).getLsbD 7
      | .m => (s.reg .f).getLsbD 7

/-! ## Registers, memory and the stack -/

/-- R104: a register's name resolves through its selector, a write writes the same physical cell and no other, and changes
no other field. R103 and R305: each pair is its two registers, the first-named one the high byte; the entries of the r-table,
the rp-table and the rp2-table; and which index register a prefix selects. -/
def Obligations.RegisterResolution : Prop :=
  ∀ (s : State) (q : RegName) (v : Byte),
    s.reg q = s.physical (if q = .a ∨ q = .f then s.afSel else s.mainSel) q ∧
    (s.setReg q v).reg q = v ∧
    (∀ bank p, ¬(bank = s.selector q ∧ p = q) → (s.setReg q v).physical bank p = s.physical bank p) ∧
    (s.setReg q v).specials = s.specials ∧ (s.setReg q v).mem = s.mem ∧ (s.setReg q v).cost = s.cost ∧
    s.af = s.reg .a ++ s.reg .f ∧ s.bc = s.reg .b ++ s.reg .c ∧ s.de = s.reg .d ++ s.reg .e ∧ s.hl = s.reg .h ++ s.reg .l ∧
    ([.b, .c, .d, .e, .h, .l, .a] : List Reg8).map Reg8.name = [.b, .c, .d, .e, .h, .l, .a] ∧
    ([.bc, .de, .hl, .sp] : List Rp).map s.rp =
      [s.reg .b ++ s.reg .c, s.reg .d ++ s.reg .e, s.reg .h ++ s.reg .l, s.sp] ∧
    ([.bc, .de, .hl, .af] : List Qq).map s.qq =
      [s.reg .b ++ s.reg .c, s.reg .d ++ s.reg .e, s.reg .h ++ s.reg .l, s.reg .a ++ s.reg .f] ∧
    ([.ix, .iy] : List Index).map s.index = [s.ix, s.iy]

/-- R202, R203: a word stored at `a` has its low byte at `a` and its high byte at the next address modulo 2^16, reads back
as itself, and changes no other byte; a pushed word reads back, high byte at the higher address (the byte orders are the
spec's own decision D10). The low byte of a word is its bits 7 to 0, the high byte its bits 15 to 8, and a pair of bytes is the
word with the first as its high byte (R13, R14). -/
def Obligations.WordsAreLittleEndian : Prop :=
  ∀ (s : State) (a v x : Word),
    (s.write16 a v).read a = Bits.lo v ∧ (s.write16 a v).read (a + 1) = Bits.hi v ∧ (s.write16 a v).read16 a = v ∧
    (x ≠ a → x ≠ a + 1 → (s.write16 a v).read x = s.read x) ∧
    (s.push16 v).sp = s.sp - 2 ∧ (s.push16 v).read (s.sp - 1) = Bits.hi v ∧ (s.push16 v).read (s.sp - 2) = Bits.lo v ∧
    (x ≠ s.sp - 1 → x ≠ s.sp - 2 → (s.push16 v).read x = s.read x) ∧
    (s.push16 v).popped = v ∧
    Bits.lo v = v.extractLsb' 0 8 ∧ Bits.hi v = v.extractLsb' 8 8 ∧
    Bits.pair (x.extractLsb' 0 8) (v.extractLsb' 0 8) = x.extractLsb' 0 8 ++ v.extractLsb' 0 8

/-! ## 8-bit loads -/

/-- `LD r,r'`, `LD r,n`, `LD r,(HL)`, `LD A,(BC)`, `LD A,(DE)`, `LD A,(nn)`, `LD r,(IX+d)`, `LD r,(IY+d)`: the register, and
nothing else. -/
def Obligations.RegisterLoads : Prop :=
  ∀ (s : State) (r r' : Reg8) (n d : Byte) (nn : Word),
    ∀ row ∈ ([(.ldRR r r', r, s.reg r'.name, 4), (.ldRN r n, r, n, 7), (.ldRAtHl r, r, s.read s.hl, 7),
        (.ldAAtBc, .a, s.read s.bc, 7), (.ldAAtDe, .a, s.read s.de, 7), (.ldAAtNn nn, .a, s.read nn, 13),
        (.ldRIxd r d, r, s.read (s.ix + Bits.sext d), 19), (.ldRIyd r d, r, s.read (s.iy + Bits.sext d), 19)] :
        List (Instr × Reg8 × Byte × Nat)),
      ∃ t, exec row.1 s = .next t ∧
        Effect.Holds ⟨[(row.2.1.name, row.2.2.1)], [], s.specials, row.2.2.2⟩ s t

/-- `LD (HL),r`, `LD (HL),n`, `LD (BC),A`, `LD (DE),A`, `LD (nn),A`, `LD (IX+d),r`, `LD (IY+d),r`, `LD (IX+d),n`,
`LD (IY+d),n` store one byte at the address the form computes; `LD (nn),HL`, `LD (nn),IX`, `LD (nn),IY`, `LD (nn),rr` store the
low byte at `nn` and the high byte at `nn + 1` (the spec's own decision D10); nothing else changes. -/
def Obligations.MemoryStores : Prop :=
  ∀ (s : State) (r : Reg8) (rr : Rp) (n d : Byte) (nn : Word),
    (∀ row ∈ ([(.ldAtHlR r, s.hl, s.reg r.name, 7), (.ldAtHlN n, s.hl, n, 10), (.ldAtBcA, s.bc, s.reg .a, 7),
        (.ldAtDeA, s.de, s.reg .a, 7), (.ldAtNnA nn, nn, s.reg .a, 13),
        (.ldIxdR d r, s.ix + Bits.sext d, s.reg r.name, 19), (.ldIydR d r, s.iy + Bits.sext d, s.reg r.name, 19),
        (.ldIxdN d n, s.ix + Bits.sext d, n, 19), (.ldIydN d n, s.iy + Bits.sext d, n, 19)] :
        List (Instr × Word × Byte × Nat)),
      ∃ t, exec row.1 s = .next t ∧
        Effect.Holds ⟨[], [(row.2.1, row.2.2.1)], s.specials, row.2.2.2⟩ s t) ∧
    (∀ row ∈ ([(.ldAtNnHl nn, s.hl, 16), (.ldAtNnIx nn, s.ix, 20), (.ldAtNnIy nn, s.iy, 20),
        (.ldAtNnRr nn rr, s.rp rr, 20)] : List (Instr × Word × Nat)),
      ∃ t, exec row.1 s = .next t ∧ Effect.Holds ⟨[], wordAt nn row.2.1, s.specials, row.2.2⟩ s t)

/-- `LD A,I` and `LD A,R` copy the register to A and set S, Z, 5, 3 from it, PV from IFF2, H and N to 0, C kept;
`LD I,A` and `LD R,A` copy A, all 8 bits, and write no flag (bits 5 and 3 from the value loaded are the spec's own decision
D16, part (d)). -/
def Obligations.SpecialRegisterLoads : Prop :=
  ∀ s : State,
    (∀ row ∈ ([(.ldAI, s.iReg), (.ldAR, s.rReg)] : List (Instr × Byte)),
      ∃ t, exec row.1 s = .next t ∧
        Effect.Holds
          ⟨[(.a, row.2),
            (.f, Flags.toByte ⟨row.2.getLsbD 7, row.2 == 0, row.2.getLsbD 5, false, row.2.getLsbD 3, s.iff2, false,
              (s.reg .f).getLsbD 0⟩)], [], s.specials, 9⟩ s t) ∧
    (∃ t, exec .ldIA s = .next t ∧ Effect.Holds ⟨[], [], { s.specials with iReg := s.reg .a }, 9⟩ s t) ∧
    (∃ t, exec .ldRA s = .next t ∧ Effect.Holds ⟨[], [], { s.specials with rReg := s.reg .a }, 9⟩ s t)

/-! ## 16-bit loads and the stack -/

/-- `LD rr,nn`, `LD HL,(nn)`, `LD rr,(nn)`, `LD SP,HL`, `LD SP,IX`, `LD SP,IY`, and `LD IX,nn`, `LD IY,nn`, `LD IX,(nn)`,
`LD IY,(nn)`: the pair, SP or the index register, and nothing else; words in memory are read low byte first (the spec's own
decision D10). -/
def Obligations.PairLoads : Prop :=
  ∀ (s : State) (rr : Rp) (nn : Word),
    let word := Bits.pair (s.read (nn + 1)) (s.read nn)
    (∀ row ∈ ([(.ldRrNn rr nn, rr, nn, 10), (.ldHlAtNn nn, .hl, word, 16), (.ldRrAtNn rr nn, rr, word, 20),
        (.ldSpHl, .sp, s.hl, 6), (.ldSpIx, .sp, s.ix, 10), (.ldSpIy, .sp, s.iy, 10)] : List (Instr × Rp × Word × Nat)),
      ∃ t, exec row.1 s = .next t ∧
        Effect.Holds ⟨row.2.1.regs row.2.2.1, [], row.2.1.specials row.2.2.1 s.specials, row.2.2.2⟩ s t) ∧
    (∀ row ∈ ([(.ldIxNn nn, .ix, nn, 14), (.ldIyNn nn, .iy, nn, 14), (.ldIxAtNn nn, .ix, word, 20),
        (.ldIyAtNn nn, .iy, word, 20)] : List (Instr × Index × Word × Nat)),
      ∃ t, exec row.1 s = .next t ∧
        Effect.Holds ⟨[], [], s.specials.withIndex row.2.1 row.2.2.1, row.2.2.2⟩ s t)

/-- `PUSH qq`, `PUSH IX`, `PUSH IY`: the high byte at SP - 1, the low byte at SP - 2, SP two lower; `POP qq`, `POP IX`, `POP IY`:
the word at SP, low byte first, SP two higher, `POP AF` writing all 8 bits of F; and nothing else (the byte order is the
spec's own decision D10). -/
def Obligations.StackMoves : Prop :=
  ∀ (s : State) (qq : Qq),
    let word := Bits.pair (s.read (s.sp + 1)) (s.read s.sp)
    let popped := { s.specials with sp := s.sp + 2 }
    (∀ row ∈ ([(.pushQq qq, s.qq qq, 11), (.pushIx, s.ix, 15), (.pushIy, s.iy, 15)] : List (Instr × Word × Nat)),
      ∃ t, exec row.1 s = .next t ∧
        Effect.Holds ⟨[], pushedAt s.sp row.2.1, { s.specials with sp := s.sp - 2 }, row.2.2⟩ s t) ∧
    (∃ t, exec (.popQq qq) s = .next t ∧ Effect.Holds ⟨qq.regs word, [], popped, 10⟩ s t) ∧
    (∃ t, exec .popIx s = .next t ∧ Effect.Holds ⟨[], [], popped.withIndex .ix word, 14⟩ s t) ∧
    (∃ t, exec .popIy s = .next t ∧ Effect.Holds ⟨[], [], popped.withIndex .iy word, 14⟩ s t)

/-! ## Exchanges and block instructions -/

/-- `EX DE,HL`, `EX (SP),HL`, `EX (SP),IX`, `EX (SP),IY`: the two values change places; `EX AF,AF'` and `EXX` toggle one selector
and move no data: both banks hold what they held; and nothing else (the order of a word's bytes at SP is the spec's own
decision D10). -/
def Obligations.Exchanges : Prop :=
  ∀ s : State,
    let word := Bits.pair (s.read (s.sp + 1)) (s.read s.sp)
    (∃ t, exec .exDeHl s = .next t ∧
      Effect.Holds ⟨[(.d, s.reg .h), (.e, s.reg .l), (.h, s.reg .d), (.l, s.reg .e)], [], s.specials, 4⟩ s t) ∧
    (∃ t, exec .exAtSpHl s = .next t ∧
      Effect.Holds ⟨Rp.hl.regs word, wordAt s.sp s.hl, s.specials, 19⟩ s t) ∧
    (∃ t, exec .exAtSpIx s = .next t ∧
      Effect.Holds ⟨[], wordAt s.sp s.ix, s.specials.withIndex .ix word, 23⟩ s t) ∧
    (∃ t, exec .exAtSpIy s = .next t ∧
      Effect.Holds ⟨[], wordAt s.sp s.iy, s.specials.withIndex .iy word, 23⟩ s t) ∧
    (∃ t, exec .exAfAf s = .next t ∧ Effect.Holds ⟨[], [], { s.specials with afSel := !s.afSel }, 4⟩ s t) ∧
    (∃ t, exec .exx s = .next t ∧ Effect.Holds ⟨[], [], { s.specials with mainSel := !s.mainSel }, 4⟩ s t)

/-- `LDI`, `LDD`, `LDIR`, `LDDR`: one byte from (HL) to (DE), HL and DE up or down by one, BC down by one, the flags 5, H, 3,
PV, N, and for the repeating forms `pc` back by two while BC is not 0 (the flag formulas and one step for each iteration are
the spec's own decisions D16, D42). -/
def Obligations.BlockTransfers : Prop :=
  ∀ s : State,
    let v := s.read s.hl
    let bc := s.bc - 1
    let n := s.reg .a + v
    let f : Byte := Flags.toByte { s.flags with
      f5 := n.getLsbD 1, h := false, f3 := n.getLsbD 3, pv := bc != 0, n := false }
    let regs (step : Word) : List (RegName × Byte) :=
      Rp.hl.regs (s.hl + step) ++ Rp.de.regs (s.de + step) ++ Rp.bc.regs bc ++ [(.f, f)]
    let back : Specials := if bc = 0 then s.specials else { s.specials with pc := s.pc - 2 }
    let cost : Nat := if bc = 0 then 16 else 21
    ∀ row ∈ ([(.ldi, 1, s.specials, 16), (.ldd, -1, s.specials, 16), (.ldir, 1, back, cost), (.lddr, -1, back, cost)] :
        List (Instr × Word × Specials × Nat)),
      ∃ t, exec row.1 s = .next t ∧
        Effect.Holds ⟨regs row.2.1, [(s.de, v)], row.2.2.1, row.2.2.2⟩ s t

/-- `CPI`, `CPD`, `CPIR`, `CPDR`: A compared with (HL), HL up or down by one, BC down by one, the flags, and for the repeating
forms `pc` back by two while BC is not 0 and the bytes differ; A and memory unchanged (the flag formulas and one step for each
iteration are the spec's own decisions D16, D42). -/
def Obligations.BlockSearches : Prop :=
  ∀ s : State,
    let v := s.read s.hl
    let bc := s.bc - 1
    let res := s.reg .a - v
    let h := decide ((s.reg .a).toNat % 16 < v.toNat % 16)
    let n : Byte := if h then res - 1 else res
    let f := Flags.toByte
      ⟨res.getLsbD 7, res == 0, n.getLsbD 1, h, n.getLsbD 3, bc != 0, true, (s.reg .f).getLsbD 0⟩
    let regs (step : Word) : List (RegName × Byte) := Rp.hl.regs (s.hl + step) ++ Rp.bc.regs bc ++ [(.f, f)]
    let again := bc ≠ 0 ∧ s.reg .a ≠ v
    let back : Specials := if again then { s.specials with pc := s.pc - 2 } else s.specials
    let cost : Nat := if again then 21 else 16
    ∀ row ∈ ([(.cpi, 1, s.specials, 16), (.cpd, -1, s.specials, 16), (.cpir, 1, back, cost), (.cpdr, -1, back, cost)] :
        List (Instr × Word × Specials × Nat)),
      ∃ t, exec row.1 s = .next t ∧ Effect.Holds ⟨regs row.2.1, [], row.2.2.1, row.2.2.2⟩ s t

/-! ## 8-bit arithmetic and logic -/

/-- `ADD A,s`, `ADC A,s`, `SUB s`, `SBC A,s`, `AND s`, `XOR s`, `OR s` in every operand form write A and F; `CP s` writes F alone,
as the subtraction does, bits 5 and 3 from the result (the spec's own decision D16); and nothing else. -/
def Obligations.AluOnA : Prop :=
  ∀ (s : State) (src : Src),
    let a := s.reg .a
    let v := s.readSrc src
    let c := (s.reg .f).getLsbD 0
    (∀ row ∈ ([(addForms src, add8 a v false), (adcForms src, add8 a v c), (subForms src, sub8 a v false),
        (sbcForms src, sub8 a v c), (andForms src, a &&& v, logicFlags (a &&& v) true),
        (xorForms src, a ^^^ v, logicFlags (a ^^^ v) false), (orForms src, a ||| v, logicFlags (a ||| v) false)] :
        List (Instr × Byte × Flags)),
      ∃ t, exec row.1 s = .next t ∧
        Effect.Holds ⟨[(.a, row.2.1), (.f, row.2.2.toByte)], [], s.specials, src.aluCost⟩ s t) ∧
    (∃ t, exec (cpForms src) s = .next t ∧
      Effect.Holds ⟨[(.f, (sub8 a v false).2.toByte)], [], s.specials, src.aluCost⟩ s t)

/-- The four forms of a source operand, their values and their costs (43_alu8.md R543); and the three forms of an operand that is
also written, the address each computes and the value read there (30_encoding.md R307, R308). -/
def Obligations.SourceOperandForms : Prop :=
  ∀ (s : State) (r : Reg8) (n d : Byte),
    (∀ row ∈ ([(.reg r, none), (.atHl, some s.hl), (.indexed .ix d, some (s.ix + Bits.sext d)),
        (.indexed .iy d, some (s.iy + Bits.sext d))] : List (Loc × Option Word)),
      s.locAddr row.1 = row.2 ∧ s.readLoc row.1 = row.2.elim (s.reg r.name) s.read) ∧
    ∀ row ∈ ([(.loc (.reg r), s.reg r.name, 4), (.loc .atHl, s.read s.hl, 7), (.imm n, n, 7),
        (.loc (.indexed .ix d), s.read (s.ix + Bits.sext d), 19),
        (.loc (.indexed .iy d), s.read (s.iy + Bits.sext d), 19)] : List (Src × Byte × Nat)),
      s.readSrc row.1 = row.2.1 ∧ row.1.aluCost = row.2.2 ∧
      ((Bits.sext d).toInt = d.toInt ∧ (s.ix + Bits.sext d).toNat = (((s.ix.toNat : Int) + d.toInt) % 65536).toNat)

/-- `INC m` and `DEC m` in every operand form: the operand at the address read, and F as the 8-bit addition or subtraction of
1 but for C, which is kept; nothing else. -/
def Obligations.IncrementsAndDecrements : Prop :=
  ∀ (s : State) (m : Loc),
    let v := s.readLoc m
    let up : Byte × Flags := add8 v 1 false
    let down : Byte × Flags := sub8 v 1 false
    let cost : Nat :=
      match m with
      | .reg _ => 4
      | .atHl => 11
      | .indexed _ _ => 23
    ∀ row ∈ ([(incForms m, up), (decForms m, down)] : List (Instr × Byte × Flags)),
      ∃ t, exec row.1 s = .next t ∧
        Effect.Holds
          ⟨s.locRegs m row.2.1 ++ [(.f, Flags.toByte { row.2.2 with c := (s.reg .f).getLsbD 0 })],
            s.locStores m row.2.1, s.specials, cost⟩ s t

/-- `DAA`, `CPL`, `NEG`, `CCF`, `SCF`: A and F as their rules say, and nothing else; `DAA` for every A and every combination of
flags as R554's pseudocode corrects them (bits 5 and 3 of `CCF` and `SCF` are the spec's own decision D16). -/
def Obligations.AccumulatorAndFlagOperations : Prop :=
  ∀ s : State,
    let a := s.reg .a
    let f := s.flags
    let low := a.toNat % 16
    let corr : Byte :=
      (if f.h = true ∨ 9 < low then 0x06 else 0x00) ||| (if f.c = true ∨ 0x99 < a.toNat then 0x60 else 0x00)
    let res := if f.n then a - corr else a + corr
    let daa : Flags :=
      ⟨res.getLsbD 7, res == 0, res.getLsbD 5, if f.n then f.h && decide (low < 6) else decide (9 < low), res.getLsbD 3,
        Bits.parity res, f.n, decide (f.c = true ∨ 0x99 < a.toNat)⟩
    daa8 a f = (res, daa) ∧
    (∃ t, exec .daa s = .next t ∧ Effect.Holds ⟨[(.a, res), (.f, daa.toByte)], [], s.specials, 4⟩ s t) ∧
    (∃ t, exec .cpl s = .next t ∧
      Effect.Holds ⟨[(.a, ~~~a), (.f, Flags.toByte { f with
        h := true, n := true, f5 := !a.getLsbD 5, f3 := !a.getLsbD 3 })], [], s.specials, 4⟩ s t) ∧
    (∃ t, exec .neg s = .next t ∧
      Effect.Holds ⟨[(.a, 0 - a), (.f, (sub8 0 a false).2.toByte)], [], s.specials, 8⟩ s t ∧
      (sub8 0 a false).2.pv = (a == 0x80) ∧ (sub8 0 a false).2.c = (a != 0)) ∧
    (∃ t, exec .ccf s = .next t ∧
      Effect.Holds ⟨[(.f, Flags.toByte { f with
        h := f.c, c := !f.c, n := false, f5 := a.getLsbD 5, f3 := a.getLsbD 3 })], [], s.specials, 4⟩ s t) ∧
    (∃ t, exec .scf s = .next t ∧
      Effect.Holds ⟨[(.f, Flags.toByte { f with
        c := true, h := false, n := false, f5 := a.getLsbD 5, f3 := a.getLsbD 3 })], [], s.specials, 4⟩ s t)

/-! ## 16-bit arithmetic -/

/-- `ADD HL,rr`, `ADC HL,rr`, `SBC HL,rr`, `ADD IX,rr`, `ADD IY,rr`: the register pair and F; in the index forms entry 2 is
the index register itself; `INC rr`, `DEC rr`, `INC IX`, `INC IY`, `DEC IX`, `DEC IY`: the pair modulo 2^16 and no flag; and
nothing else. That `ADD HL,rr`, `ADD IX,rr` and `ADD IY,rr` keep N is a choice: the spec's own decision D16, part (f), at its
parameter's default (log 8). -/
def Obligations.PairArithmetic : Prop :=
  ∀ (s : State) (rr : Rp) (x : RpX),
    let c := (s.reg .f).getLsbD 0
    (∀ row ∈ ([(.addHlRr rr, add16 s.hl (s.rp rr) s.flags, 11), (.adcHlRr rr, adc16 s.hl (s.rp rr) c, 15),
        (.sbcHlRr rr, sbc16 s.hl (s.rp rr) c, 15)] : List (Instr × (Word × Flags) × Nat)),
      ∃ t, exec row.1 s = .next t ∧
        Effect.Holds ⟨Rp.hl.regs row.2.1.1 ++ [(.f, row.2.1.2.toByte)], [], s.specials, row.2.2⟩ s t) ∧
    (∀ row ∈ ([(.addIxRr x, .ix), (.addIyRr x, .iy)] : List (Instr × Index)),
      let b :=
        match x with
        | .bc => s.bc
        | .de => s.de
        | .xy => s.index row.2
        | .sp => s.sp
      let r := add16 (s.index row.2) b s.flags
      ∃ t, exec row.1 s = .next t ∧
        Effect.Holds ⟨[(.f, r.2.toByte)], [], s.specials.withIndex row.2 r.1, 15⟩ s t) ∧
    (∀ row ∈ ([(.incRr rr, s.rp rr + 1), (.decRr rr, s.rp rr - 1)] : List (Instr × Word)),
      ∃ t, exec row.1 s = .next t ∧
        Effect.Holds ⟨rr.regs row.2, [], rr.specials row.2 s.specials, 6⟩ s t) ∧
    (∀ row ∈ ([(.incIx, .ix, s.ix + 1), (.incIy, .iy, s.iy + 1), (.decIx, .ix, s.ix - 1), (.decIy, .iy, s.iy - 1)] :
        List (Instr × Index × Word)),
      ∃ t, exec row.1 s = .next t ∧
        Effect.Holds ⟨[], [], s.specials.withIndex row.2.1 row.2.2, 10⟩ s t)

/-! ## Rotates, shifts and bits -/

/-- `RLC`, `RRC`, `RL`, `RR`, `SLA`, `SRA`, `SLL`, `SRL` of a register, `(HL)`, `(IX+d)` and `(IY+d)`: the operand shuffled at
the address it was read from, and F: S, Z, 5, 3 and parity of the result, C the carry out, H and N cleared. `RLCA`, `RRCA`,
`RLA`, `RRA`: A shuffled, C the carry out, H and N cleared, 5 and 3 from A, S, Z and PV kept. Nothing else changes. -/
def Obligations.RotatesAndShifts : Prop :=
  ∀ (s : State) (op : RotOp) (m : Loc),
    let r := shuffle op (s.readLoc m) ((s.reg .f).getLsbD 0)
    let cost : Nat :=
      match m with
      | .reg _ => 8
      | .atHl => 15
      | .indexed _ _ => 23
    (∃ t, exec (rotForms op m) s = .next t ∧
      Effect.Holds
        ⟨s.locRegs m r.1 ++ [(.f, Flags.toByte
          ⟨r.1.getLsbD 7, r.1 == 0, r.1.getLsbD 5, false, r.1.getLsbD 3, Bits.parity r.1, false, r.2⟩)],
          s.locStores m r.1, s.specials, cost⟩ s t) ∧
    (∀ row ∈ ([(.rlca, .rlc), (.rrca, .rrc), (.rla, .rl), (.rra, .rr)] : List (Instr × RotOp)),
      let a := shuffle row.2 (s.reg .a) ((s.reg .f).getLsbD 0)
      ∃ t, exec row.1 s = .next t ∧
        Effect.Holds
          ⟨[(.a, a.1), (.f, Flags.toByte { s.flags with
            c := a.2, h := false, n := false, f5 := a.1.getLsbD 5, f3 := a.1.getLsbD 3 })], [], s.specials, 4⟩ s t)

/-- `BIT b,m` in every form writes only F: Z and PV say the bit is clear, S that bit 7 was tested and set, H set, N cleared, C
kept (5 and 3 from the tested value are the spec's own decision D16). `RES b,m` and `SET b,m` in every form clear or set bit
`b` of the operand, keep its other bits and write no flag. Nothing else changes. -/
def Obligations.BitOperations : Prop :=
  ∀ (s : State) (b : Fin 8) (m : Loc),
    let v := s.readLoc m
    let bit := v.getLsbD b
    let cost (r h x : Nat) : Nat :=
      match m with
      | .reg _ => r
      | .atHl => h
      | .indexed _ _ => x
    (∃ t, exec (bitForms b m) s = .next t ∧
      Effect.Holds
        ⟨[(.f, Flags.toByte
          ⟨decide (b = 7) && bit, !bit, v.getLsbD 5, true, v.getLsbD 3, !bit, false, (s.reg .f).getLsbD 0⟩)],
          [], s.specials, cost 8 12 20⟩ s t) ∧
    (∀ row ∈ ([(resForms b m, false), (setForms b m, true)] : List (Instr × Bool)),
      ∃ t w, exec row.1 s = .next t ∧
        (∀ i < 8, w.getLsbD i = if i = b.val then row.2 else v.getLsbD i) ∧
        Effect.Holds ⟨s.locRegs m w, s.locStores m w, s.specials, cost 8 15 23⟩ s t)

/-- `RLD` and `RRD` rotate the three low digits of A and (HL); the high digit of A is kept, F is S, Z, 5, 3 and parity of the
new A with H and N cleared and C kept; nothing else. -/
def Obligations.DigitRotates : Prop :=
  ∀ s : State,
    let a := (s.reg .a).toNat
    let v := (s.read s.hl).toNat
    ∀ row ∈ ([(.rld, v % 16 * 16 + a % 16, a / 16 * 16 + v / 16), (.rrd, a % 16 * 16 + v / 16, a / 16 * 16 + v % 16)] :
        List (Instr × Nat × Nat)),
      let stored := BitVec.ofNat 8 row.2.1
      let acc := BitVec.ofNat 8 row.2.2
      ∃ t, exec row.1 s = .next t ∧
        Effect.Holds
          ⟨[(.a, acc), (.f, Flags.toByte
            ⟨acc.getLsbD 7, acc == 0, acc.getLsbD 5, false, acc.getLsbD 3, Bits.parity acc, false,
              (s.reg .f).getLsbD 0⟩)], [(s.hl, stored)], s.specials, 18⟩ s t

/-! ## Jumps, calls, returns -/

/-- `JP nn`, `JP cc,nn`, `JR e`, `JR cc,e`, `JP (HL)`, `JP (IX)`, `JP (IY)`: only `pc`; `JP cc` costs 10 taken or not, `JR cc`
12 or 7; a relative target counts from the byte after the instruction. `DJNZ e`: B down by one modulo 256, no flag, `pc` moves
by `e` and the cost is 13 where B is not 0 after it, else 8. The row of `JR cc` also ranges over PO, PE, P and M, which no
encoding has: that they follow the same pseudocode is the model's choice (log 12). -/
def Obligations.Jumps : Prop :=
  ∀ (s : State) (cc : Cond) (nn : Word) (e : Byte),
    let taken := s.flags.cond cc
    let rel := s.pc + Bits.sext e
    let b := s.reg .b - 1
    (∀ row ∈ ([(.jpNn nn, nn, 10), (.jpCcNn cc nn, if taken then nn else s.pc, 10), (.jrE e, rel, 12),
        (.jrCcE cc e, if taken then rel else s.pc, if taken then 12 else 7), (.jpHl, s.hl, 4), (.jpIx, s.ix, 8),
        (.jpIy, s.iy, 8)] : List (Instr × Word × Nat)),
      ∃ t, exec row.1 s = .next t ∧ Effect.Holds ⟨[], [], { s.specials with pc := row.2.1 }, row.2.2⟩ s t) ∧
    (∃ t, exec (.djnzE e) s = .next t ∧
      Effect.Holds ⟨[(.b, b)], [], { s.specials with pc := if b = 0 then s.pc else rel }, if b = 0 then 8 else 13⟩ s t)

/-- `CALL nn`, `CALL cc,nn`, `RST p`: the address of the next instruction pushed and `pc` at the target; a call not taken only
costs 10 (the order of the pushed bytes is the spec's own decision D10). The row of `RST p` also ranges over bytes `p` that are
none of the eight targets and that no encoding has: that they follow the same pseudocode is the model's choice (log 12). -/
def Obligations.Calls : Prop :=
  ∀ (s : State) (cc : Cond) (nn : Word) (p : Byte),
    (∀ row ∈ ([(.callNn nn, nn, 17), (.rst p, p.setWidth 16, 11)] : List (Instr × Word × Nat)),
      ∃ t, exec row.1 s = .next t ∧
        Effect.Holds ⟨[], pushedAt s.sp s.pc, { s.specials with sp := s.sp - 2, pc := row.2.1 }, row.2.2⟩ s t) ∧
    (∃ t, exec (.callCcNn cc nn) s = .next t ∧
      Effect.Holds
        (if s.flags.cond cc then ⟨[], pushedAt s.sp s.pc, { s.specials with sp := s.sp - 2, pc := nn }, 17⟩
          else ⟨[], [], s.specials, 10⟩) s t)

/-- `RET`, `RET cc`, `RETI`, `RETN`: `pc` is the word popped; `RETI` and `RETN` also copy IFF2 to IFF1; a return not taken only
costs 5 (the order of the popped bytes is the spec's own decision D10). -/
def Obligations.Returns : Prop :=
  ∀ (s : State) (cc : Cond),
    let back : Specials := { s.specials with sp := s.sp + 2, pc := Bits.pair (s.read (s.sp + 1)) (s.read s.sp) }
    ∀ row ∈ ([(.ret, back, 10), (.retCc cc, if s.flags.cond cc then back else s.specials, if s.flags.cond cc then 11 else 5),
        (.reti, { back with iff1 := s.iff2 }, 14), (.retn, { back with iff1 := s.iff2 }, 14)] :
        List (Instr × Specials × Nat)),
      ∃ t, exec row.1 s = .next t ∧ Effect.Holds ⟨[], [], row.2.1, row.2.2⟩ s t

/-! ## Input, output and CPU control -/

/-- The port map, by the port's low byte: a read of the VDP's status and data ports, of the controller, and 0xFF elsewhere; a
write to the VDP's control and data ports, to the controller mode, a sound event, and nothing elsewhere. The spec's own
decisions: the ports no device answers and the controller chosen by port bit 1 (D33), the status read clearing the latch (D21),
the sound event (D34). -/
def Obligations.PortDispatch : Prop :=
  ∀ (s : State) (port : Word) (v : Byte),
    let p := Bits.lo port
    let g := p &&& 0xE0
    (g = 0xA0 → p.getLsbD 0 = true → s.portIn port =
      (s.vdp.status, { s with vdp := { s.vdp with status := s.vdp.status &&& 0x1F, latch := false } })) ∧
    (g = 0xA0 → p.getLsbD 0 = false → s.portIn port =
      (s.vdp.readAhead, { s with vdp := { s.vdp with
        readAhead := Vram.read s.vdp.vram s.vdp.vaddr.toNat, vaddr := s.vdp.vaddr + 1, latch := false } })) ∧
    (g = 0xE0 → (s.portIn port).2 = s ∧ (s.portIn port).1.getLsbD 7 = false ∧
      ∀ i < 7, (s.portIn port).1.getLsbD i =
        !((if p.getLsbD 1 then if s.joyMode = .a then s.host.joy.c1a else s.host.joy.c1b
          else if s.joyMode = .a then s.host.joy.c0a else s.host.joy.c0b).getLsbD i)) ∧
    (g ≠ 0xA0 → g ≠ 0xE0 → s.portIn port = (0xFF, s)) ∧
    (g = 0xA0 → p.getLsbD 0 = true → s.portOut port v = { s with vdp := s.vdp.controlWrite v }) ∧
    (g = 0xA0 → p.getLsbD 0 = false → s.portOut port v = { s with vdp := s.vdp.dataWrite v }) ∧
    (g = 0x80 → s.portOut port v = { s with joyMode := .a }) ∧
    (g = 0xC0 → s.portOut port v = { s with joyMode := .b }) ∧
    (g = 0xE0 → s.portOut port v = { s with events := s.events ++ [.sound v] }) ∧
    (g ∉ ([0xA0, 0x80, 0xC0, 0xE0] : List Byte) → s.portOut port v = s)

/-- `IN A,(n)`, `IN r,(C)`, `OUT (n),A`, `OUT (C),r`: the register and the flags the rule names, and what the port does; nothing
else. -/
def Obligations.SingleTransfers : Prop :=
  ∀ (s : State) (r : Reg8) (n : Byte),
    let portN := Bits.pair (s.reg .a) n
    let v := (s.portIn s.bc).1
    (∃ t, exec (.inAN n) s = .next t ∧
      Effect.Holds ⟨[(.a, (s.portIn portN).1)], [], (s.portIn portN).2.specials, 11⟩ s t) ∧
    (∃ t, exec (.inRC r) s = .next t ∧
      Effect.Holds ⟨[(r.name, v), (.f, Flags.toByte
        ⟨v.getLsbD 7, v == 0, v.getLsbD 5, false, v.getLsbD 3, Bits.parity v, false, (s.reg .f).getLsbD 0⟩)], [],
        (s.portIn s.bc).2.specials, 12⟩ s t) ∧
    (∃ t, exec (.outNA n) s = .next t ∧
      Effect.Holds ⟨[], [], (s.portOut portN (s.reg .a)).specials, 11⟩ s t) ∧
    (∃ t, exec (.outCR r) s = .next t ∧
      Effect.Holds ⟨[], [], (s.portOut s.bc (s.reg r.name)).specials, 12⟩ s t)

/-- `INI`, `IND`, `INIR`, `INDR`: the port read with B before its decrement, the byte stored at HL; `OUTI`, `OUTD`, `OTIR`, `OTDR`:
the byte at HL written to the port with B after its decrement; B down by one, HL up or down by one, all eight flags, and for
the repeating forms `pc` back by two while B is not 0 (the flag formulas and one step for each iteration are the spec's own
decisions D17, D42). -/
def Obligations.BlockIO : Prop :=
  ∀ s : State,
    let b := s.reg .b - 1
    let f (v : Byte) (k : Nat) : Byte := Flags.toByte
      ⟨b.getLsbD 7, b == 0, b.getLsbD 5, decide (k > 255), b.getLsbD 3, Bits.parity (BitVec.ofNat 8 (k % 8) ^^^ b),
        v.getLsbD 7, decide (k > 255)⟩
    let cost : Nat := if b = 0 then 16 else 21
    let back (x : Specials) : Specials := if b = 0 then x else { x with pc := s.pc - 2 }
    let got := (s.portIn s.bc).1
    let afterIn := (s.portIn s.bc).2.specials
    let put := s.read s.hl
    let afterOut := (s.portOut (Bits.pair b (s.reg .c)) put).specials
    (∀ row ∈ ([(.ini, 1, s.reg .c + 1, afterIn, 16), (.ind, -1, s.reg .c - 1, afterIn, 16),
        (.inir, 1, s.reg .c + 1, back afterIn, cost), (.indr, -1, s.reg .c - 1, back afterIn, cost)] :
        List (Instr × Word × Byte × Specials × Nat)),
      ∃ t, exec row.1 s = .next t ∧
        Effect.Holds
          ⟨[(.b, b)] ++ Rp.hl.regs (s.hl + row.2.1) ++ [(.f, f got (got.toNat + row.2.2.1.toNat))], [(s.hl, got)],
            row.2.2.2.1, row.2.2.2.2⟩ s t) ∧
    (∀ row ∈ ([(.outi, 1, afterOut, 16), (.outd, -1, afterOut, 16), (.otir, 1, back afterOut, cost),
        (.otdr, -1, back afterOut, cost)] : List (Instr × Word × Specials × Nat)),
      ∃ t, exec row.1 s = .next t ∧
        Effect.Holds
          ⟨[(.b, b)] ++ Rp.hl.regs (s.hl + row.2.1) ++
            [(.f, f put (put.toNat + (Bits.lo (s.hl + row.2.1)).toNat))], [], row.2.2.1, row.2.2.2⟩ s t)

/-- `NOP`, `HALT`, `DI`, `EI`, `IM 0`, `IM 1`, `IM 2`: one piece of control state, and nothing else (that `EI` acts at once and
that `IM 0` and `IM 2` execute are the spec's own decisions D7, D36). -/
def Obligations.CpuControl : Prop :=
  ∀ s : State,
    ∀ row ∈ ([(.nop, s.specials, 4), (.halt, { s.specials with halted := true }, 4),
        (.di, { s.specials with iff1 := false, iff2 := false }, 4),
        (.ei, { s.specials with iff1 := true, iff2 := true }, 4), (.im0, { s.specials with im := .im0 }, 8),
        (.im1, { s.specials with im := .im1 }, 8), (.im2, { s.specials with im := .im2 }, 8)] :
        List (Instr × Specials × Nat)),
      ∃ t, exec row.1 s = .next t ∧ Effect.Holds ⟨[], [], row.2.1, row.2.2⟩ s t

/-! ## The whole instruction set -/

/-- Every instruction of the table runs in every state: it answers a next state of cost 4 to 23 and leaves the fault record,
the NMI latch, IFF3, the period counter, the VDP's line and frame buffer and the host's inputs alone. -/
def Obligations.EveryInstructionCompletes : Prop :=
  ∀ (i : Instr) (s : State), ∃ t, exec i s = .next t ∧ 4 ≤ t.cost ∧ t.cost ≤ 23 ∧
    t.fault = s.fault ∧ t.nmiPending = s.nmiPending ∧ t.iff3 = s.iff3 ∧ t.periodCounter = s.periodCounter ∧
    t.vdp.line = s.vdp.line ∧ t.vdp.fb = s.vdp.fb ∧ t.vdp.collisionAcc = s.vdp.collisionAcc ∧
    t.vdp.modeFault = s.vdp.modeFault ∧ t.host = s.host ∧ t.hostPlan = s.hostPlan

/-- R102: `EX AF,AF'` alone toggles `afSel`, `EXX` alone toggles `mainSel`; a toggle moves no data, it changes the bank that A and
F, or B to L, are read from afterwards. -/
def Obligations.BankSelectors : Prop :=
  ∀ (i : Instr) (s t : State), exec i s = .next t →
    t.afSel = (if i = .exAfAf then !s.afSel else s.afSel) ∧ t.mainSel = (if i = .exx then !s.mainSel else s.mainSel) ∧
    (i = .exAfAf ∨ i = .exx → ∀ bank q, t.physical bank q = s.physical bank q) ∧
    (i = .exAfAf → ∀ q, t.reg q = if q = .a ∨ q = .f then s.physical (!s.afSel) q else s.reg q) ∧
    (i = .exx → ∀ q, t.reg q = if q = .a ∨ q = .f then s.reg q else s.physical (!s.mainSel) q)

/-- A register of the bank its selector does not choose is neither written nor read by any instruction: changing it before the
instruction changes nothing after it but that register (10_state.md, the last sentence of R104). -/
def Obligations.HiddenBankIsIsolated : Prop :=
  ∀ (i : Instr) (s t : State) (bank : Bool) (q : RegName) (v : Byte), bank ≠ s.selector q → exec i s = .next t →
    exec i (s.setPhysical bank q v) = .next (t.setPhysical bank q v)

/-- Which instruction may change each piece of control state (10_state.md R114 to R118), and that only the port
instructions reach the VDP, the controller mode and the event list (20_memory.md R210, 48_vdp.md R801). -/
def Obligations.ControlStateWriters : Prop :=
  ∀ (i : Instr) (s t : State), exec i s = .next t →
    (t.iReg ≠ s.iReg → i = .ldIA) ∧ (t.rReg ≠ s.rReg → i = .ldRA) ∧
    (t.im ≠ s.im → i = .im0 ∨ i = .im1 ∨ i = .im2) ∧ (t.halted ≠ s.halted → i = .halt) ∧
    (t.iff1 ≠ s.iff1 → i = .di ∨ i = .ei ∨ i = .reti ∨ i = .retn) ∧ (t.iff2 ≠ s.iff2 → i = .di ∨ i = .ei) ∧
    (t.vdp ≠ s.vdp ∨ t.joyMode ≠ s.joyMode ∨ t.events ≠ s.events →
      (∃ n, i = .inAN n) ∨ (∃ r, i = .inRC r) ∨ (∃ n, i = .outNA n) ∨ (∃ r, i = .outCR r) ∨
      i = .ini ∨ i = .inir ∨ i = .ind ∨ i = .indr ∨ i = .outi ∨ i = .otir ∨ i = .outd ∨ i = .otdr)

/-! ## Encoding -/

/-- Words written out from the `encoding` patterns of spec/opcode_table.json decode to the instruction they stand for. -/
def Obligations.SampleWordsDecode : Prop :=
  decodeBytes [0x41] = .ok (.ldRR .b .c) ∧
  decodeBytes [0x36, 0xAB] = .ok (.ldAtHlN 0xAB) ∧
  decodeBytes [0xFD, 0x36, 0x7F, 0x5A] = .ok (.ldIydN 0x7F 0x5A) ∧
  decodeBytes [0xED, 0x5B, 0x10, 0x70] = .ok (.ldRrAtNn .de 0x7010) ∧
  decodeBytes [0xF5] = .ok (.pushQq .af) ∧
  decodeBytes [0xED, 0xB0] = .ok .ldir ∧
  decodeBytes [0xDD, 0x86, 0x01] = .ok (.addIxd 1) ∧
  decodeBytes [0xFD, 0x19] = .ok (.addIyRr .de) ∧
  decodeBytes [0xDD, 0xCB, 0x05, 0x1E] = .ok (.rrIxd 5) ∧
  decodeBytes [0xCB, 0x7C] = .ok (.bitR 7 .h) ∧
  decodeBytes [0x38, 0xFC] = .ok (.jrCcE .c 0xFC) ∧
  decodeBytes [0xEF] = .ok (.rst 0x28) ∧
  decodeBytes [0xED, 0x50] = .ok (.inRC .d) ∧
  decodeBytes [0xED, 0x5E] = .ok .im2

/-- Decoding the encoding of a well-formed instruction, whatever bytes follow it, gives the instruction back, with every
operand. -/
def Obligations.DecodeOfEncode : Prop :=
  ∀ (i : Instr) (rest : List Byte), i.wellFormed = true → decodeBytes (encode i ++ rest) = .ok i

/-- Whatever four bytes decode to is well-formed, and its encoding is exactly the bytes it was read from: no two instructions
share a word. -/
def Obligations.EncodeOfDecode : Prop :=
  ∀ (b0 b1 b2 b3 : Byte) (i : Instr), decode b0 b1 b2 b3 = .ok i →
    i.wellFormed = true ∧ encode i = [b0, b1, b2, b3].take i.length

/-- R320, R321 and the reject side of R302: every unprefixed byte and every CB byte is an instruction; what is rejected after
0xED, 0xDD or 0xFD reports the bytes fetched: two, or four for an index-CB form (which encodings are admitted, and the report,
are the spec's own decisions D1, D46, D35). -/
def Obligations.RejectedEncodings : Prop :=
  ∀ (b0 b1 b2 b3 : Byte) (e : Reject), decode b0 b1 b2 b3 = .error e →
    (b0 = 0xED ∧ e.bytes = [b0, b1]) ∨
    ((b0 = 0xDD ∨ b0 = 0xFD) ∧ b1 ≠ 0xCB ∧ e.bytes = [b0, b1]) ∨
    ((b0 = 0xDD ∨ b0 = 0xFD) ∧ b1 = 0xCB ∧ e.bytes = [b0, b1, b2, b3])

/-- R303: a refresh counts the low 7 bits of R and keeps bit 7; an instruction refreshes twice exactly where its first byte is
a prefix (the increment is the spec's own decision D9). -/
def Obligations.RefreshCounts : Prop :=
  (∀ (r : Byte) (k : Nat), (refreshed r k).getLsbD 7 = r.getLsbD 7 ∧ (refreshed r k).toNat % 128 = (r.toNat % 128 + k) % 128) ∧
  (∀ i : Instr, i.refreshes =
    if (encode i).headD 0 = 0xCB ∨ (encode i).headD 0 = 0xED ∨ (encode i).headD 0 = 0xDD ∨ (encode i).headD 0 = 0xFD then 2
    else 1)

/-! ## The step -/

/-- Where no fault, interrupt or halt comes first and the bytes at `pc` decode to `i`, a step is `i`'s meaning in the state
with R refreshed and `pc` past the instruction (all its bytes are fetched before it runs: log 10; the count of refreshes is the
spec's own decision D9), then the end of the system step. -/
def Obligations.StepRunsDecoded : Prop :=
  ∀ (s t : State) (i : Instr), s.fault = none → s.nmiPending = false → (s.host.int && s.iff1) = false → s.halted = false →
    decode (s.read s.pc) (s.read (s.pc + 1)) (s.read (s.pc + 2)) (s.read (s.pc + 3)) = .ok i →
    exec i { s with rReg := refreshed s.rReg i.refreshes, pc := s.pc + BitVec.ofNat 16 i.length } = .next t →
    step s = .next t.endStep

/-- The end of a system step: the period counter falls by the cost; on exhaustion it is reloaded by 228 and one tick runs (the
reload and the order are the spec's own decisions D18, D43); then the host's next inputs take effect, which is the model's
choice (log 1). -/
def Obligations.TimeBase : Prop :=
  ∀ t : State, t.fault = none →
    let p := t.periodCounter - t.cost
    let u : State := if p ≤ 0 then { t with periodCounter := p + 228 }.tick else { t with periodCounter := p }
    t.endStep = { u with host := t.hostPlan.headD t.host, hostPlan := t.hostPlan.tail }

/-- The priorities of a step: a fault stops it and every later one, an NMI comes before a maskable interrupt, a maskable
interrupt before the halted idle, and the idle before the fetch. Mode 0 and 2 requests, and a fetch of an encoding outside the
admitted set, set the fault record and change nothing else; the idle fetches nothing and costs 0. The spec's own decisions: the
record's form (D35), when modes 0 and 2 fault (D36, D54), the idle cost (D8). The model's choice (log 4): the step that sets
the record answers a next state, with no tick and no new host inputs, and every later step answers the fault outcome. -/
def Obligations.StepPriorities : Prop :=
  ∀ s : State,
    (∀ record, s.fault = some record → step s = .fault (.stopped record)) ∧
    (s.fault = none → s.nmiPending = true → step s = .next s.acceptNmi.endStep) ∧
    (s.fault = none → s.nmiPending = false → s.host.int = true → s.iff1 = true →
      step s = .next (if s.im = .im1 then s.acceptIm1.endStep
        else { s with fault := some (.unsupportedInterruptMode s.im s.pc) })) ∧
    (s.fault = none → s.nmiPending = false → (s.host.int && s.iff1) = false → s.halted = true →
      step s = .next { s with cost := 0 }.endStep) ∧
    (s.fault = none → s.nmiPending = false → (s.host.int && s.iff1) = false → s.halted = false →
      ∀ e, decode (s.read s.pc) (s.read (s.pc + 1)) (s.read (s.pc + 2)) (s.read (s.pc + 3)) = .error e →
        step s = .next { s with fault := some (.unimplementedOpcode s.pc e.bytes) })

/-- Both interrupt entries leave the halt, clear IFF1, refresh R once, push `pc` and jump to the vector; the NMI clears its
latch and keeps IFF2, mode 1 clears IFF2; every other register, flag and byte is kept (vectors, costs, the flip-flops
cleared, the refresh and the order of the pushed bytes are the spec's own decisions D3, D4, D9, D10). `RETN` right after an NMI
entry returns to the interrupted program: `pc` and SP as before it, IFF1 restored from IFF2, every register of both banks
kept. -/
def Obligations.InterruptEntries : Prop :=
  ∀ s : State,
    Effect.Holds
      ⟨[], pushedAt s.sp s.pc, { s.specials with
        nmiPending := false, halted := false, iff1 := false, rReg := refreshed s.rReg 1, sp := s.sp - 2, pc := 0x0066 }, 11⟩
      s s.acceptNmi ∧
    Effect.Holds
      ⟨[], pushedAt s.sp s.pc, { s.specials with
        halted := false, iff1 := false, iff2 := false, rReg := refreshed s.rReg 1, sp := s.sp - 2, pc := 0x0038 }, 13⟩
      s s.acceptIm1 ∧
    ∃ u, exec .retn s.acceptNmi = .next u ∧
      Effect.Holds
        ⟨[], pushedAt s.sp s.pc, { s.specials with
          nmiPending := false, halted := false, iff1 := s.iff2, rReg := refreshed s.rReg 1 }, 14⟩ s u

/-- One step of a halted machine with no interrupt to take (no NMI pending, and not both INT and IFF1 set) makes no progress:
only the cost and the host's inputs change (70_reset_and_hazards.md R1010; the idle cost 0 and that this is no fault are the
spec's own decisions D8, D44). That the inputs become the plan's next entry is the model's choice (log 1). -/
def Obligations.HaltCanHang : Prop :=
  ∀ s : State, s.Inv → s.fault = none → s.nmiPending = false → (s.host.int && s.iff1) = false → s.halted = true →
    ∃ t, step s = .next t ∧ t = { s with cost := 0, host := s.hostPlan.headD s.host, hostPlan := s.hostPlan.tail }

/-! ## The VDP -/

/-- The control port takes bytes in pairs: the first replaces the low byte of the address; the second writes a register under
its mask, or sets the address and, with bit 6 clear, primes the read-ahead. A data write stores one byte, leaves every other
byte of VRAM alone, loads the read-ahead, advances the address modulo 2^14 and clears the latch (the eight masks of R803 and the
details are the spec's own decisions D20, D22, D39, D40, D50, D51). -/
def Obligations.PortWrites : Prop :=
  ∀ (v : Vdp) (x : Byte),
    (v.latch = false →
      v.controlWrite x = { v with vaddr := v.vaddr.extractLsb' 8 6 ++ x, latch := true }) ∧
    (v.latch = true → x.getLsbD 7 = true → ∀ n : Fin 8, n.val = x.toNat % 8 →
      (v.controlWrite x).vr.get n =
        v.vaddr.setWidth 8 &&& ([0x03, 0xFB, 0x0F, 0xFF, 0x07, 0x7F, 0x07, 0xFF] : List Byte)[n] ∧
      (∀ m : Fin 8, m ≠ n → (v.controlWrite x).vr.get m = v.vr.get m) ∧
      v.controlWrite x = { v with latch := false, vr := (v.controlWrite x).vr }) ∧
    (v.latch = true → x.getLsbD 7 = false → ∀ a : BitVec 14, a = x.extractLsb' 0 6 ++ v.vaddr.extractLsb' 0 8 →
      v.controlWrite x =
        if x.getLsbD 6 then { v with latch := false, vaddr := a }
        else { v with latch := false, vaddr := a + 1, readAhead := Vram.read v.vram a.toNat }) ∧
    v.dataWrite x = { v with
      vram := (v.dataWrite x).vram, vaddr := BitVec.ofNat 14 (v.vaddr.toNat + 1), readAhead := x, latch := false } ∧
    ∀ a, Vram.read (v.dataWrite x).vram a = if a = v.vaddr.toNat then x else Vram.read v.vram a

/-- R813: a data read, at every port of the VDP's family with bit 0 clear, returns the read-ahead byte, primes the next one,
advances the address modulo 2^14 and clears the latch; nothing else changes. -/
def Obligations.DataReads : Prop :=
  ∀ (s : State) (port : Word), Bits.lo port &&& 0xE0 = 0xA0 → (Bits.lo port).getLsbD 0 = false →
    s.portIn port =
      (s.vdp.readAhead, { s with vdp := { s.vdp with
        readAhead := Vram.read s.vdp.vram s.vdp.vaddr.toNat
        vaddr := BitVec.ofNat 14 ((s.vdp.vaddr.toNat + 1) % 2 ^ 14)
        latch := false } })

/-- The document's round trip: set the address, write a byte, set the address again for reading, read: the byte comes back
(48_vdp.md R815; the details of the writes are the spec's own decisions D22, D39, D40, D50). -/
def Obligations.VramRoundTrip : Prop :=
  ∀ (v : Vdp) (a : BitVec 14) (x : Byte), v.latch = false →
    let low : Byte := a.setWidth 8
    let high : Byte := (a.extractLsb' 8 6).setWidth 8
    let written := ((v.controlWrite low).controlWrite (high ||| 0x40)).dataWrite x
    let ready := (written.controlWrite low).controlWrite high
    written.vaddr = a + 1 ∧ ready.readAhead = x ∧ ready.vaddr = a + 1 ∧ ready.latch = false ∧ ready.vr = v.vr ∧
    ∀ b, Vram.read ready.vram b = if b = a.toNat then x else Vram.read v.vram b

/-- The display mode from M1 = VR[1][4], M2 = VR[1][3], M3 = VR[0][1]: none set is Graphics I, only M3 is Graphics II, any
other pattern is returned raw (R820; the treatment of the raw patterns is the spec's own decision D23). The eight registers by
number, the table bases (R804; the spec's own decisions D20, D24), the address of a sprite entry's byte (R842; the spec's own
decision D28), the backdrop VR[7][3:0] and the sixteen colours (R856, R855; the spec's own decision D25), and where a pixel's
four bytes lie in the frame buffer (R131). -/
def Obligations.DisplayModes : Prop :=
  ∀ (vr : VdpRegs) (fb : List Host.Cell) (i k x y : Nat),
    let m1 := vr.r1.getLsbD 4
    let m2 := vr.r1.getLsbD 3
    let m3 := vr.r0.getLsbD 1
    vr.displayMode =
      (if m1 || m2 then .other (BitVec.ofBool m1 ++ BitVec.ofBool m2 ++ BitVec.ofBool m3)
        else if m3 then .g2 else .g1) ∧
    vr.nameTable = vr.r2.toNat % 128 * 1024 ∧
    vr.colourTable1 = vr.r3.toNat * 64 ∧ vr.colourTable2 = (if vr.r3.getLsbD 7 then 0x2000 else 0) ∧
    vr.patternTable1 = vr.r4.toNat % 8 * 2048 ∧ vr.patternTable2 = (if vr.r4.getLsbD 2 then 0x2000 else 0) ∧
    vr.spriteAttributes = vr.r5.toNat % 128 * 128 ∧ vr.spritePatterns = vr.r6.toNat % 8 * 2048 ∧
    vr.spriteEntry i k = vr.r5.toNat % 128 * 128 + 4 * i + k ∧ vr.backdrop = vr.r7.extractLsb' 0 4 ∧
    (∀ n : Fin 8, vr.get n = [vr.r0, vr.r1, vr.r2, vr.r3, vr.r4, vr.r5, vr.r6, vr.r7][n]) ∧
    FrameBuffer.offset x y = 4 * (y * 256 + x) ∧
    FrameBuffer.pixel fb x y =
      (FrameBuffer.read fb (4 * (y * 256 + x)), FrameBuffer.read fb (4 * (y * 256 + x) + 1),
        FrameBuffer.read fb (4 * (y * 256 + x) + 2), FrameBuffer.read fb (4 * (y * 256 + x) + 3)) ∧
    (List.range 16).map (fun c => Params.palette (BitVec.ofNat 4 c)) =
      [(0, 0, 0), (0, 0, 0), (33, 200, 66), (94, 220, 120), (84, 85, 237), (125, 118, 252), (212, 82, 77), (66, 235, 245),
        (252, 85, 84), (255, 121, 120), (212, 193, 84), (230, 206, 128), (33, 176, 59), (201, 91, 186), (204, 204, 204),
        (255, 255, 255)]

/-- The scanline schedule: the counter steps modulo 262; lines 193 to 261 change nothing else; line 192 sets VB, moves the
collision accumulator into COL and requests an NMI where IE is set and VB was clear; lines 0 to 191 run the background renderer
and then the sprite engine on what it left (R831), and touch only the VDP's status, collision, frame buffer, mode fault and the
event list (the schedule, the IE bit, COL and the request are the spec's own decisions D19, D20, D30, D41). -/
def Obligations.TickSchedule : Prop :=
  ∀ s : State, s.vdp.line < 262 →
    let l := if s.vdp.line = 261 then 0 else s.vdp.line + 1
    s.tick.vdp.line = l ∧
    (192 < l → s.tick = { s with vdp := { s.vdp with line := l } }) ∧
    (l = 192 →
      s.tick = { s with
        nmiPending := s.nmiPending || (s.vdp.vr.r1.getLsbD 5 && !s.vdp.status.getLsbD 7)
        vdp := { s.vdp with
          line := l
          collisionAcc := false
          status := s.vdp.status ||| 0x80 ||| (if s.vdp.collisionAcc then 0x20 else 0) } }) ∧
    (l < 192 →
      let v := { s.vdp with line := l }
      let drawn := v.background l ⟨v.fb, []⟩
      let done := drawn.1.sprites l drawn.2
      s.tick = { s with events := s.events ++ done.2.log, vdp := { done.1 with fb := done.2.fb } }) ∧
    (l < 192 →
      s.tick = { s with
        events := s.tick.events
        vdp := { s.vdp with
          line := l
          status := s.tick.vdp.status
          collisionAcc := s.tick.vdp.collisionAcc
          fb := s.tick.vdp.fb
          modeFault := s.tick.vdp.modeFault } })

/-- The background of an active line, in both modes: every pixel of the row shows the colour its name, pattern row and colour
byte give, bit 7 leftmost, 0 as the backdrop, and the VDP is kept; in any other mode nothing is drawn and `modeFault` is set,
and nothing else changes (R821); every other row of the frame is kept and nothing is logged (the palette, the table layout,
the other modes and that every line is rendered are the spec's own decisions D20, D23, D24, D25, D31). -/
def Obligations.BackgroundRows : Prop :=
  ∀ (v : Vdp) (L x y : Nat), v.vr.Masked → L < 192 → x < 256 →
    (∀ px py, FrameBuffer.read v.fb (FrameBuffer.offset px py + 3) = 255) →
    let name := (Vram.read v.vram (v.vr.nameTable + L / 8 * 32 + x / 8)).toNat
    let out := (v.background L ⟨v.fb, []⟩).2
    (∀ raw, v.vr.displayMode = .other raw → v.background L ⟨v.fb, []⟩ = ({ v with modeFault := true }, ⟨v.fb, []⟩)) ∧
    (v.vr.displayMode = .g1 ∨ v.vr.displayMode = .g2 → (v.background L ⟨v.fb, []⟩).1 = v) ∧
    (v.vr.displayMode = .g1 →
      ShowsColour out.fb x L
        (v.vr.shown (backgroundNibble (Vram.read v.vram (v.vr.patternTable1 + name * 8 + L % 8))
          (Vram.read v.vram (v.vr.colourTable1 + name / 8)) x))) ∧
    (v.vr.displayMode = .g2 →
      ShowsColour out.fb x L
        (v.vr.shown (backgroundNibble
          (Vram.read v.vram (v.vr.patternTable2 + L / 64 * 0x800 + name * 8 + L % 8))
          (Vram.read v.vram (v.vr.colourTable2 + L / 64 * 0x800 + name * 8 + L % 8)) x))) ∧
    (y ≠ L → FrameBuffer.pixel out.fb x y = FrameBuffer.pixel v.fb x y) ∧
    out.log = []

/-- The sprite scan: the first four visible of the 32 entries before the first whose Y byte is 208 are kept, a fifth sets overflow and its index is
reported, else the terminator's index or 31; the sprite engine puts that index into bits 4 to 0 of the status, sets OV on a fifth
and clears none of VB, OV, COL, and changes nothing else of the VDP but the collision accumulator (R843; the last index and the
terminator's test are the spec's own decisions D29, D38). -/
def Obligations.SpriteScan : Prop :=
  ∀ (v : Vdp) (L : Nat) (k : Canvas), v.vr.Masked →
    let entries := (List.range 32).takeWhile fun i => Vram.read v.vram (v.vr.spriteAttributes + 4 * i) != 208
    let seen := entries.filter (v.isVisible L)
    (v.scanSprites L).visible = seen.take 4 ∧
    ((v.scanSprites L).overflow = true ↔ 4 < seen.length) ∧
    let last := if 4 < seen.length then seen.getD 4 0 else min entries.length 31
    (v.scanSprites L).last = last ∧ (v.scanSprites L).skipped = [] ∧
    (v.sprites L k).1 = { v with
      status := (v.status &&& 0xE0) ||| (if 4 < seen.length then 0x40 else 0x00) ||| BitVec.ofNat 8 last
      collisionAcc := (v.sprites L k).1.collisionAcc }

/-- Sprite size and magnification: a sprite of position `Ys` is visible on the lines `Ys + 1 .. Ys + h - 1`, h = 8 or 16,
doubled by MAG, a Y byte above 256 - h standing for Y - 256; a pattern bit covers the screen columns of 0..255 that its place,
doubled by MAG, gives; and what a visible entry draws on a line (R846): the pattern row of its name, a 16-wide row of two
quadrants 16 bytes apart at the name without its two low bits, at its X, 32 to the left with the early clock, in the colour of
its low attribute bits. The spec's own decisions: 16 lines for SIZE and the quadrants (D26), MAG set magnifies (D27), the
attribute bits and the offset (D28), the window (D47), the clipping (D48). -/
def Obligations.SpriteGeometry : Prop :=
  (∀ (vr : VdpRegs) (y : Byte) (L : Nat),
    let h : Int := (if vr.r1.getLsbD 1 then 16 else 8) * (if vr.r1.getLsbD 0 then 2 else 1)
    let ys : Int := if (y.toNat : Int) > 256 - h then (y.toNat : Int) - 256 else y.toNat
    vr.spriteVisible y L = true ↔ ys + 1 ≤ L ∧ (L : Int) < ys + h) ∧
  (∀ (bits : BitVec 16) (w : Nat) (mag : Bool) (xs : Int) (x : Nat),
    let scale : Int := if mag then 2 else 1
    x ∈ spriteColumns bits w mag.toNat xs ↔
      x ≤ 255 ∧ 0 ≤ (x : Int) - xs ∧ (x : Int) - xs < w * scale ∧
      bits.getLsbD (w - 1 - (((x : Int) - xs) / scale).toNat) = true) ∧
  (∀ (v : Vdp) (L i : Nat), v.vr.Masked → i < 32 → v.isVisible L i = true →
    let entry (k : Nat) : Byte := Vram.read v.vram (v.vr.spriteAttributes + 4 * i + k)
    let large := v.vr.r1.getLsbD 1
    let scale : Int := if v.vr.r1.getLsbD 0 then 2 else 1
    let h : Int := (if large then 16 else 8) * scale
    let y : Int := (entry 0).toNat
    let ys : Int := if y > 256 - h then y - 256 else y
    let r : Nat := (((L : Int) - (ys + 1)) / scale).toNat
    let name := (entry 2).toNat
    let pattern (offset : Nat) : Byte := Vram.read v.vram (v.vr.spritePatterns + offset)
    let bits : BitVec 16 :=
      if large then Bits.pair (pattern (name / 4 * 32 + r)) (pattern (name / 4 * 32 + 16 + r))
      else (pattern (name * 8 + r)).setWidth 16
    let xs : Int := if (entry 3).getLsbD 7 then ((entry 1).toNat : Int) - 32 else (entry 1).toNat
    v.spriteRow L i =
      .ok ⟨spriteColumns bits (if large then 16 else 8) (v.vr.r1.getLsbD 0).toNat xs, (entry 3).extractLsb' 0 4⟩)

/-- Drawing a line's sprites: each column shows the lowest-indexed drawn sprite with a set bit there and a colour other than 0,
a column no such sprite covers is kept, other rows are kept; and the collision accumulator is set where two drawn sprites share
a column (48_vdp.md R846, R848; what is drawn, the collision and the colours shown, R850 and R855, are the spec's own decisions
D25, D30, D49). -/
def Obligations.SpritesOnALine : Prop :=
  ∀ (v : Vdp) (L : Nat) (k : Canvas) (rows : List SpriteRow), v.vr.Masked → L < 192 →
    (v.scanSprites L).visible.map (v.spriteRow L) = rows.map Except.ok →
    (∀ px py, FrameBuffer.read k.fb (FrameBuffer.offset px py + 3) = 255) →
    let out := v.sprites L k
    (∀ x < 256, ∀ row, rows.find? (fun row => row.colour != 0 && row.columns.contains x) = some row →
      ShowsColour out.2.fb x L row.colour) ∧
    (∀ x < 256, rows.find? (fun row => row.colour != 0 && row.columns.contains x) = none →
      FrameBuffer.pixel out.2.fb x L = FrameBuffer.pixel k.fb x L) ∧
    (∀ x < 256, ∀ y, y ≠ L → FrameBuffer.pixel out.2.fb x y = FrameBuffer.pixel k.fb x y) ∧
    (out.1.collisionAcc = true ↔ v.collisionAcc = true ∨
      ∃ (x i j : Nat) (a b : SpriteRow), i < j ∧ rows[i]? = some a ∧ rows[j]? = some b ∧ x ∈ a.columns ∧ x ∈ b.columns) ∧
    out.2.log = k.log

/-! ## Reset -/

/-- The state after reset, every element of R1003's table (the values are the spec's own decisions D14, D53). That all of
memory reads 0 and the frame is black is the model's inference: `State.reset` is the machine constructed with empty images, for
reset itself keeps both (log 9). The host's levels and `cost` are the model's (log 2, log 3). -/
def Obligations.ResetValues : Prop :=
  (∀ bank q, State.reset.physical bank q = 0x00) ∧
  State.reset.specials =
    { afSel := false, mainSel := false, ix := 0, iy := 0, sp := 0, pc := 0, iReg := 0, rReg := 0, iff1 := false, iff2 := false,
      iff3 := false, im := .im0, halted := false, nmiPending := false, fault := none, periodCounter := 228,
      vdp := State.reset.vdp, joyMode := .a, events := [], host := HostInputs.idle, hostPlan := [] } ∧
  (∀ n, State.reset.vdp.vr.get n = 0x00) ∧ State.reset.vdp.status = 0x00 ∧ State.reset.vdp.vaddr = 0 ∧
  State.reset.vdp.latch = false ∧ State.reset.vdp.readAhead = 0x00 ∧ (∀ a, Vram.read State.reset.vdp.vram a = 0x00) ∧
  State.reset.vdp.line = 0 ∧ State.reset.vdp.collisionAcc = false ∧ State.reset.vdp.modeFault = false ∧
  (∀ x y, FrameBuffer.pixel State.reset.vdp.fb x y = (0, 0, 0, 255)) ∧ (∀ a, State.reset.read a = 0x00) ∧
  State.reset.cost = 0

/-- Reset of a running machine: the RAM window 0x6000..0x7FFF is cleared and the rest of memory kept, the frame buffer keeps its
colours and gets alpha 255, and everything else is as after construction (70_reset_and_hazards.md R1000; the window and the
values are the spec's own decisions D13, D14, D53; the host's inputs are kept, log 16). -/
def Obligations.ResetOfARunningMachine : Prop :=
  ∀ s : State,
    (∀ a : Word, s.resetFrom.read a = if 0x6000 ≤ a.toNat ∧ a.toNat ≤ 0x7FFF then 0 else s.read a) ∧
    (∀ x y, FrameBuffer.pixel s.resetFrom.vdp.fb x y =
      ((FrameBuffer.pixel s.vdp.fb x y).1, (FrameBuffer.pixel s.vdp.fb x y).2.1, (FrameBuffer.pixel s.vdp.fb x y).2.2.1, 255)) ∧
    s.resetFrom = { State.reset with
      mem := s.resetFrom.mem, vdp := { State.reset.vdp with fb := s.resetFrom.vdp.fb }, host := s.host,
      hostPlan := s.hostPlan }

/-- Construction: zeros, the boot ROM image from 0x0000 and the cartridge from 0x8000; an image too long is refused
(70_reset_and_hazards.md R1004; the refusal is the spec's own decision D52). -/
def Obligations.Construction : Prop :=
  ∀ (boot cart : List Byte),
    ((8192 < boot.length ∨ 32768 < cart.length) → State.construct boot cart = none) ∧
    (boot.length ≤ 8192 → cart.length ≤ 32768 →
      ∃ s, State.construct boot cart = some s ∧ s.Inv ∧ s = { State.reset with mem := s.mem } ∧
        ∀ a : Word, s.read a =
          if a.toNat < boot.length then boot.getD a.toNat 0
          else if 0x8000 ≤ a.toNat then cart.getD (a.toNat - 0x8000) 0 else 0)

/-! ## The invariant -/

/-- The invariant holds after reset. -/
def Obligations.ResetHasInvariant : Prop := State.reset.Inv

/-- Every step keeps the invariant: canonical memories, masked VDP registers, the line counter below 262, the period counter in
1..228, alpha 255 everywhere, and no out-of-range entry ever logged (the masks, the period and the range check are the spec's own
decisions D20, D18, D37). -/
def Obligations.StepKeepsInvariant : Prop :=
  ∀ s t : State, s.Inv → step s = .next t → t.Inv
end

