-- ==== Sys2Proof/Laws/Memory.lean ====
section
/-! SUPPORT. The laws of cell lists: a read after a write, and that every operation keeps the canonical form. -/

namespace Sys2Proof.Machine

/-! ## Reading -/

/-- Erasing a cell makes its address read as unlisted and leaves every other address alone. -/
theorem Cells.read_erase (u : Nat → Byte) (cells : List Host.Cell) (a b : Nat) :
    Cells.read u (Cells.erase cells a) b = if b = a then u a else Cells.read u cells b := by
  induction cells with
  | nil => by_cases h : b = a <;> simp [Cells.erase, Cells.read, h]
  | cons cell rest ih =>
    obtain ⟨k, v⟩ := cell
    simp only [Cells.erase] at ih ⊢
    by_cases hk : k = a
    · subst hk
      by_cases hb : b = k <;> simp_all [Cells.read]
    · by_cases hb : b = k
      · subst hb
        simp [Cells.read, hk]
      · simp [Cells.read, hk, hb, ih]

/-- Inserting a cell at an address that no cell has makes the address read as the new byte and leaves every other address
alone. -/
theorem Cells.read_insert (u : Nat → Byte) (cells : List Host.Cell) (a b : Nat) (v : Byte)
    (ha : ∀ cell ∈ cells, cell.1 ≠ a) :
    Cells.read u (Cells.insert cells a v) b = if b = a then v else Cells.read u cells b := by
  induction cells with
  | nil => simp [Cells.insert, Cells.read]
  | cons cell rest ih =>
    obtain ⟨k, w⟩ := cell
    have hk : k ≠ a := ha (k, w) (by simp)
    have ih := ih fun c hc => ha c (by simp [hc])
    simp only [Cells.insert]
    split
    · simp [Cells.read]
    · by_cases hb : b = k
      · subst hb
        simp [Cells.read, hk]
      · simp [Cells.read, hb, ih]

theorem Cells.erase_keys (cells : List Host.Cell) (a : Nat) : ∀ cell ∈ Cells.erase cells a, cell.1 ≠ a := by
  intro cell h
  simpa [Cells.erase] using (List.mem_filter.mp h).2

/-- A read after a write: the byte written at its address, and every other address as before. -/
theorem Cells.read_write (u : Nat → Byte) (cells : List Host.Cell) (a b : Nat) (v : Byte) :
    Cells.read u (Cells.write u cells a v) b = if b = a then v else Cells.read u cells b := by
  simp only [Cells.write]
  split
  · next h => rw [Cells.read_erase, h]
  · rw [Cells.read_insert _ _ _ _ _ (Cells.erase_keys cells a), Cells.read_erase]
    split <;> rfl

/-- Clearing makes the chosen addresses read as unlisted and leaves every other address alone. -/
theorem Cells.read_clear (u : Nat → Byte) (drop : Nat → Bool) (cells : List Host.Cell) (b : Nat) :
    Cells.read u (Cells.clear drop cells) b = if drop b then u b else Cells.read u cells b := by
  induction cells with
  | nil => by_cases h : drop b <;> simp [Cells.clear, Cells.read, h]
  | cons cell rest ih =>
    obtain ⟨k, v⟩ := cell
    simp only [Cells.clear] at ih ⊢
    by_cases hd : drop k
    · by_cases hb : b = k
      · subst hb
        simp [hd, ih]
      · simp [Cells.read, hd, hb, ih]
    · by_cases hb : b = k
      · subst hb
        simp [Cells.read, hd]
      · simp [Cells.read, hd, hb, ih]

@[simp] theorem Memory.read_write (cells : List Host.Cell) (a b : Word) (v : Byte) :
    Memory.read (Memory.write cells a v) b = if b = a then v else Memory.read cells b := by
  simp [Memory.read, Memory.write, Cells.read_write, BitVec.toNat_inj]

@[simp] theorem Vram.read_write (cells : List Host.Cell) (a b : Nat) (v : Byte) :
    Vram.read (Vram.write cells a v) b = if b = a then v else Vram.read cells b := Cells.read_write _ _ _ _ _

@[simp] theorem FrameBuffer.read_write (cells : List Host.Cell) (a b : Nat) (v : Byte) :
    FrameBuffer.read (FrameBuffer.write cells a v) b = if b = a then v else FrameBuffer.read cells b :=
  Cells.read_write _ _ _ _ _

/-! ## The canonical form -/

/-- The canonical form, said of the list as a whole. -/
theorem Cells.wf_iff (u : Nat → Byte) (size : Nat) (cells : List Host.Cell) :
    Cells.wf u size cells = true ↔
      (∀ cell ∈ cells, cell.1 < size ∧ cell.2 ≠ u cell.1) ∧ cells.Pairwise (fun c d => c.1 < d.1) := by
  induction cells with
  | nil => simp [Cells.wf]
  | cons cell rest ih =>
    obtain ⟨k, v⟩ := cell
    simp only [Cells.wf, Bool.and_eq_true, ih, List.all_eq_true, decide_eq_true_eq, bne_iff_ne, List.pairwise_cons,
      List.forall_mem_cons]
    tauto

theorem Cells.wf_filter (u : Nat → Byte) (size : Nat) (keep : Host.Cell → Bool) (cells : List Host.Cell)
    (h : Cells.wf u size cells = true) : Cells.wf u size (cells.filter keep) = true := by
  rw [Cells.wf_iff] at h ⊢
  exact ⟨fun c hc => h.1 c (List.mem_filter.mp hc).1, h.2.filter keep⟩

theorem Cells.mem_insert (cells : List Host.Cell) (a : Nat) (v : Byte) (c : Host.Cell) :
    c ∈ Cells.insert cells a v ↔ c = (a, v) ∨ c ∈ cells := by
  induction cells with
  | nil => simp [Cells.insert]
  | cons cell rest ih =>
    obtain ⟨k, w⟩ := cell
    simp only [Cells.insert]
    split
    · simp
    · simp only [List.mem_cons, ih]
      tauto

theorem Cells.wf_insert (u : Nat → Byte) (size : Nat) (cells : List Host.Cell) (a : Nat) (v : Byte)
    (h : Cells.wf u size cells = true) (ha : a < size) (hv : v ≠ u a) (hk : ∀ cell ∈ cells, cell.1 ≠ a) :
    Cells.wf u size (Cells.insert cells a v) = true := by
  rw [Cells.wf_iff] at h ⊢
  refine ⟨fun c hc => ?_, ?_⟩
  · rcases (Cells.mem_insert cells a v c).mp hc with rfl | hc
    · exact ⟨ha, hv⟩
    · exact h.1 c hc
  · have h2 := h.2
    clear h
    induction cells with
    | nil => simp [Cells.insert]
    | cons cell rest ih =>
      obtain ⟨k, w⟩ := cell
      rw [List.pairwise_cons] at h2
      have hka : k ≠ a := hk (k, w) (by simp)
      simp only [Cells.insert]
      split
      · next hlt =>
        refine List.pairwise_cons.mpr ⟨fun d hd => ?_, List.pairwise_cons.mpr h2⟩
        rcases List.mem_cons.mp hd with rfl | hd
        · exact hlt
        · exact lt_trans hlt (h2.1 d hd)
      · next hge =>
        refine List.pairwise_cons.mpr ⟨fun d hd => ?_, ih (fun c hc => hk c (by simp [hc])) h2.2⟩
        rcases (Cells.mem_insert rest a v d).mp hd with rfl | hd
        · show k < a
          omega
        · exact h2.1 d hd

/-- A write below the array's size keeps the canonical form. -/
theorem Cells.wf_write (u : Nat → Byte) (size : Nat) (cells : List Host.Cell) (a : Nat) (v : Byte)
    (h : Cells.wf u size cells = true) (ha : a < size) : Cells.wf u size (Cells.write u cells a v) = true := by
  have he : Cells.wf u size (Cells.erase cells a) = true := Cells.wf_filter u size _ cells h
  simp only [Cells.write]
  split
  · exact he
  · next hv => exact Cells.wf_insert u size _ a v he ha hv (Cells.erase_keys cells a)

theorem Cells.wf_clear (u : Nat → Byte) (size : Nat) (drop : Nat → Bool) (cells : List Host.Cell)
    (h : Cells.wf u size cells = true) : Cells.wf u size (Cells.clear drop cells) = true :=
  Cells.wf_filter u size _ cells h

theorem Cells.wf_load (u : Nat → Byte) (size : Nat) (cells : List Host.Cell) (a : Nat) (bytes : List Byte)
    (h : Cells.wf u size cells = true) (ha : a + bytes.length ≤ size) :
    Cells.wf u size (Cells.load u cells a bytes) = true := by
  induction bytes generalizing cells a with
  | nil => exact h
  | cons v rest ih =>
    simp only [List.length_cons] at ha
    exact ih _ _ (Cells.wf_write u size cells a v h (by omega)) (by omega)

/-- A store to `M` keeps its canonical form. -/
theorem Memory.wf_write (cells : List Host.Cell) (a : Word) (v : Byte) (h : Memory.wf cells = true) :
    Memory.wf (Memory.write cells a v) = true :=
  Cells.wf_write _ _ _ _ _ h (by have := a.isLt; simp only [Config.memSize]; omega)

/-- A store to VRAM keeps its canonical form. -/
theorem Vram.wf_write (cells : List Host.Cell) (a : BitVec 14) (v : Byte) (h : Vram.wf cells = true) :
    Vram.wf (Vram.write cells a.toNat v) = true :=
  Cells.wf_write _ _ _ _ _ h (by have := a.isLt; simp only [Config.vramSize]; omega)

/-- A store to the frame buffer keeps its canonical form. -/
theorem FrameBuffer.wf_write (cells : List Host.Cell) (o : Nat) (v : Byte) (h : FrameBuffer.wf cells = true)
    (ho : o < Config.frameBytes) : FrameBuffer.wf (FrameBuffer.write cells o v) = true :=
  Cells.wf_write _ _ _ _ _ h ho

/-- Equal reads mean equal lists: the canonical form is canonical. -/
theorem Cells.ext (u : Nat → Byte) (size : Nat) (c d : List Host.Cell) (hc : Cells.wf u size c = true)
    (hd : Cells.wf u size d = true) (h : ∀ a, Cells.read u c a = Cells.read u d a) : c = d := by
  induction c generalizing d with
  | nil =>
    cases d with
    | nil => rfl
    | cons cell rest =>
      obtain ⟨k, v⟩ := cell
      have := (Cells.wf_iff u size _).mp hd
      have hv := (this.1 (k, v) (by simp)).2
      have := h k
      simp [Cells.read] at this
      exact absurd this.symm hv
  | cons x xs ih =>
    obtain ⟨k, v⟩ := x
    have hc' := (Cells.wf_iff u size _).mp hc
    have low : ∀ (w : List Host.Cell) (a : Nat), (∀ q ∈ w, a < q.1) → Cells.read u w a = u a := by
      intro w a hw
      induction w with
      | nil => rfl
      | cons q qs ihq =>
        obtain ⟨j, b⟩ := q
        have hj : a < j := hw (j, b) (by simp)
        have : a ≠ j := by omega
        simp [Cells.read, this, ihq fun r hr => hw r (by simp [hr])]
    cases d with
    | nil =>
      have := h k
      simp [Cells.read] at this
      exact absurd this (hc'.1 (k, v) (by simp)).2
    | cons y ys =>
      obtain ⟨j, b⟩ := y
      have hd' := (Cells.wf_iff u size _).mp hd
      rw [List.pairwise_cons] at hc' hd'
      have hkj : k = j := by
        rcases lt_trichotomy k j with hlt | heq | hgt
        · have hr := h k
          rw [low ((j, b) :: ys) k fun q hq => ?_] at hr
          · simp [Cells.read] at hr
            exact absurd hr (hc'.1 (k, v) (by simp)).2
          · rcases List.mem_cons.mp hq with rfl | hq
            · exact hlt
            · exact lt_trans hlt (hd'.2.1 q hq)
        · exact heq
        · have hr := h j
          rw [low ((k, v) :: xs) j fun q hq => ?_] at hr
          · simp [Cells.read] at hr
            exact absurd hr.symm (hd'.1 (j, b) (by simp)).2
          · rcases List.mem_cons.mp hq with rfl | hq
            · exact hgt
            · exact lt_trans hgt (hc'.2.1 q hq)
      subst hkj
      have hvb : v = b := by simpa [Cells.read] using h k
      subst hvb
      congr 1
      refine ih ys ?_ ?_ fun a => ?_
      · rw [Cells.wf_iff]
        exact ⟨fun q hq => hc'.1 q (by simp [hq]), hc'.2.2⟩
      · rw [Cells.wf_iff]
        exact ⟨fun q hq => hd'.1 q (by simp [hq]), hd'.2.2⟩
      · by_cases ha : a = k
        · subst ha
          rw [low xs a hc'.2.1, low ys a hd'.2.1]
        · simpa [Cells.read, ha] using h a

end Sys2Proof.Machine
end

