-- ==== Sys2Proof/Laws/Display.lean ====
section
/-! SUPPORT. The VDP: its registers stay masked, a plotted pixel and every other one, addresses that stay in range, and what a
tick can change. -/

namespace Sys2Proof.Machine

/-! ## Registers -/

@[simp] theorem VdpRegs.get_set (vr : VdpRegs) (n m : Fin 8) (v : Byte) :
    (vr.set n v).get m = if m = n then v else vr.get m := by
  fin_cases n <;> fin_cases m <;> rfl

theorem Vdp.writeReg_masked (v : Vdp) (n : Fin 8) (x : Byte) (h : v.vr.Masked) : (v.writeReg n x).vr.Masked := by
  intro m
  simp only [Vdp.writeReg, VdpRegs.get_set]
  split
  · next e =>
    subst e
    rw [BitVec.and_assoc, BitVec.and_self]
  · exact h m

theorem Vdp.controlWrite_masked (v : Vdp) (x : Byte) (h : v.vr.Masked) : (v.controlWrite x).vr.Masked := by
  simp only [Vdp.controlWrite]
  split
  · exact h
  · split
    · exact Vdp.writeReg_masked _ _ _ h
    · split <;> exact h

/-- A port write keeps VRAM's canonical form. -/
theorem Vdp.dataWrite_wf (v : Vdp) (x : Byte) (h : Vram.wf v.vram = true) : Vram.wf (v.dataWrite x).vram = true :=
  Vram.wf_write v.vram v.vaddr x h

theorem Vdp.controlWrite_vram (v : Vdp) (x : Byte) : (v.controlWrite x).vram = v.vram := by
  simp only [Vdp.controlWrite]
  split
  · rfl
  · split
    · rfl
    · split <;> rfl

/-- What a control write leaves alone. -/
theorem Vdp.controlWrite_frame (v : Vdp) (x : Byte) :
    (v.controlWrite x).status = v.status ∧ (v.controlWrite x).line = v.line ∧ (v.controlWrite x).fb = v.fb ∧
    (v.controlWrite x).collisionAcc = v.collisionAcc ∧ (v.controlWrite x).modeFault = v.modeFault := by
  simp only [Vdp.controlWrite]
  split
  · exact ⟨rfl, rfl, rfl, rfl, rfl⟩
  · split
    · exact ⟨rfl, rfl, rfl, rfl, rfl⟩
    · split <;> exact ⟨rfl, rfl, rfl, rfl, rfl⟩

/-! ## Plotting -/

/-- The colour a plot stores: 0 is the backdrop. -/
theorem Canvas.plot_read (k : Canvas) (vr : VdpRegs) (x L : Nat) (c : BitVec 4) (o : Nat) :
    FrameBuffer.read (k.plot vr x L c).fb o =
      if o = FrameBuffer.offset x L + 2 then (Params.palette (vr.shown c)).2.2
      else if o = FrameBuffer.offset x L + 1 then (Params.palette (vr.shown c)).2.1
      else if o = FrameBuffer.offset x L then (Params.palette (vr.shown c)).1
      else FrameBuffer.read k.fb o := by
  simp only [Canvas.plot, FrameBuffer.read_write, Params.vdpStartLine, Nat.sub_zero]
  rfl

@[simp] theorem Canvas.plot_log (k : Canvas) (vr : VdpRegs) (x L : Nat) (c : BitVec 4) : (k.plot vr x L c).log = k.log := rfl

/-- A plot never touches an alpha byte. -/
@[simp] theorem Canvas.plot_alpha (k : Canvas) (vr : VdpRegs) (x L : Nat) (c : BitVec 4) (px py : Nat) :
    FrameBuffer.read (k.plot vr x L c).fb (FrameBuffer.offset px py + 3) =
      FrameBuffer.read k.fb (FrameBuffer.offset px py + 3) := by
  have h : ∀ j < 3, FrameBuffer.offset px py + 3 ≠ FrameBuffer.offset x L + j := by
    simp only [FrameBuffer.offset]
    omega
  rw [Canvas.plot_read, if_neg (h 2 (by omega)), if_neg (h 1 (by omega)), if_neg (by
    simpa using h 0 (by omega))]

/-- Two pixels of the frame's width share no byte. -/
theorem FrameBuffer.offset_inj (x y px py : Nat) (hx : x < 256) (hp : px < 256) (i j : Nat) (hi : i < 4) (hj : j < 4)
    (h : FrameBuffer.offset px py + i = FrameBuffer.offset x y + j) : px = x ∧ py = y := by
  simp only [FrameBuffer.offset, Config.frameWidth] at h
  omega

/-- The plotted pixel shows the colour. -/
theorem Canvas.plot_pixel (k : Canvas) (vr : VdpRegs) (x L : Nat) (c : BitVec 4)
    (ha : FrameBuffer.read k.fb (FrameBuffer.offset x L + 3) = 255) :
    ShowsColour (k.plot vr x L c).fb x L (vr.shown c) := by
  simp only [ShowsColour, FrameBuffer.pixel, Canvas.plot_alpha, ha, Canvas.plot_read]
  simp

/-- Every other pixel is kept. -/
theorem Canvas.plot_pixel_other (k : Canvas) (vr : VdpRegs) (x L : Nat) (c : BitVec 4) (px py : Nat) (hx : x < 256)
    (hp : px < 256) (h : ¬(px = x ∧ py = L)) :
    FrameBuffer.pixel (k.plot vr x L c).fb px py = FrameBuffer.pixel k.fb px py := by
  have h' : ∀ i j : Nat, i < 4 → j < 4 → FrameBuffer.offset px py + i ≠ FrameBuffer.offset x L + j :=
    fun i j hi hj e => h (FrameBuffer.offset_inj x L px py hx hp i j hi hj e)
  have h'' : ∀ i : Nat, i < 4 → FrameBuffer.read (k.plot vr x L c).fb (FrameBuffer.offset px py + i) =
      FrameBuffer.read k.fb (FrameBuffer.offset px py + i) := by
    intro i hi
    rw [Canvas.plot_read, if_neg (h' i 2 hi (by omega)), if_neg (h' i 1 hi (by omega)), if_neg (by
      simpa using h' i 0 hi (by omega))]
  simp only [FrameBuffer.pixel]
  rw [h'' 1 (by omega), h'' 2 (by omega), h'' 3 (by omega)]
  have h0 := h'' 0 (by omega)
  simp only [Nat.add_zero] at h0
  rw [h0]

/-- A plot inside the frame keeps the frame buffer's canonical form. -/
theorem Canvas.plot_wf (k : Canvas) (vr : VdpRegs) (x L : Nat) (c : BitVec 4) (hx : x < 256) (hL : L < 192)
    (h : FrameBuffer.wf k.fb = true) : FrameBuffer.wf (k.plot vr x L c).fb = true := by
  have ho : FrameBuffer.offset x L + 2 < Config.frameBytes := by
    simp only [FrameBuffer.offset, Config.frameWidth, Config.frameBytes, Config.frameHeight]
    omega
  simp only [Canvas.plot, Params.vdpStartLine, Nat.sub_zero]
  exact FrameBuffer.wf_write _ _ _ (FrameBuffer.wf_write _ _ _ (FrameBuffer.wf_write _ _ _ h (by omega)) (by omega)) ho

/-! ## Addresses in range (R849: the range check never fires) -/

theorem Vdp.fetch_ok (v : Vdp) (a : Nat) (h : a < Config.vramSize) : v.fetch a = .ok (Vram.read v.vram a) := by
  simp [Vdp.fetch, h]

theorem VdpRegs.masked_r2 (vr : VdpRegs) (h : vr.Masked) : vr.r2.toNat < 16 := by
  have h2 : vr.r2 &&& 0x0F = vr.r2 := h 2
  rw [← h2, BitVec.toNat_and]
  exact Nat.lt_of_le_of_lt Nat.and_le_right (by decide)

theorem nameAddr_lt (vr : VdpRegs) (h : vr.Masked) (L col : Nat) (hL : L < 192) (hc : col < 32) :
    nameAddr vr L col < Config.vramSize := by
  have h2 := vr.masked_r2 h
  have h3 : (vr.r2 &&& 0x7F).toNat ≤ vr.r2.toNat := by
    rw [BitVec.toNat_and]
    exact Nat.and_le_left
  simp only [nameAddr, VdpRegs.nameTable, Config.vramSize]
  omega

theorem spriteEntry_lt (vr : VdpRegs) (i k : Nat) (hi : i < 32) (hk : k < 4) : vr.spriteEntry i k < Config.vramSize := by
  have h : (vr.r5 &&& 0x7F).toNat ≤ 127 := by
    rw [BitVec.toNat_and]
    exact Nat.and_le_right
  simp only [VdpRegs.spriteEntry, VdpRegs.spriteAttributes, Config.vramSize]
  omega

/-! ## What a tick can change -/

/-- A tick changes the VDP, the NMI latch and the event list, nothing else. -/
theorem State.tick_frame (s : State) :
    s.tick = { s with vdp := s.tick.vdp, nmiPending := s.tick.nmiPending, events := s.tick.events } := by
  simp only [State.tick]
  split
  · rfl
  · split <;> rfl

/-- A tick moves the line counter by one modulo 262. -/
theorem State.tick_line (s : State) : s.tick.vdp.line = s.vdp.nextLine := by
  have hs : ∀ (v : Vdp) (L : Nat) (k : Canvas), (v.sprites L k).1.line = v.line := fun v L k => rfl
  have hb : ∀ (v : Vdp) (L : Nat) (k : Canvas), (v.background L k).1.line = v.line := by
    intro v L k
    simp only [Vdp.background]
    split <;> rfl
  simp only [State.tick]
  split
  · simp only [Vdp.activeLine, State.setVdp, State.emit, hs, hb]
  · split <;> rfl

/-- A tick leaves the VDP's registers, VRAM and port state alone. -/
theorem State.tick_ports (s : State) :
    s.tick.vdp.vr = s.vdp.vr ∧ s.tick.vdp.vram = s.vdp.vram ∧ s.tick.vdp.vaddr = s.vdp.vaddr ∧
    s.tick.vdp.latch = s.vdp.latch ∧ s.tick.vdp.readAhead = s.vdp.readAhead := by
  have hs : ∀ (v : Vdp) (L : Nat) (k : Canvas), (v.sprites L k).1.vr = v.vr ∧ (v.sprites L k).1.vram = v.vram ∧
      (v.sprites L k).1.vaddr = v.vaddr ∧ (v.sprites L k).1.latch = v.latch ∧
      (v.sprites L k).1.readAhead = v.readAhead := fun v L k => ⟨rfl, rfl, rfl, rfl, rfl⟩
  have hb : ∀ (v : Vdp) (L : Nat) (k : Canvas), (v.background L k).1.vr = v.vr ∧ (v.background L k).1.vram = v.vram ∧
      (v.background L k).1.vaddr = v.vaddr ∧ (v.background L k).1.latch = v.latch ∧
      (v.background L k).1.readAhead = v.readAhead := by
    intro v L k
    simp only [Vdp.background]
    split <;> exact ⟨rfl, rfl, rfl, rfl, rfl⟩
  simp only [State.tick]
  split
  · simp only [Vdp.activeLine, State.setVdp, State.emit, hs, hb, and_self]
  · split <;> exact ⟨rfl, rfl, rfl, rfl, rfl⟩

/-- The sprite engine changes the VDP's status and collision accumulator, nothing else (R843, R848). -/
theorem Vdp.sprites_vdp (v : Vdp) (L : Nat) (k : Canvas) :
    (v.sprites L k).1 = { v with
      status := (v.scanSprites L).status v.status
      collisionAcc := (v.sprites L k).1.collisionAcc } := rfl

/-- The background renderer keeps the VDP in both modes (R840, R841). -/
theorem Vdp.background_drawn (v : Vdp) (L : Nat) (k : Canvas) (h : v.vr.displayMode = .g1 ∨ v.vr.displayMode = .g2) :
    (v.background L k).1 = v := by
  rcases h with h | h <;> simp only [Vdp.background, h]

/-- In any other mode it sets `modeFault` and draws nothing (R821). -/
theorem Vdp.background_other (v : Vdp) (L : Nat) (k : Canvas) {raw : BitVec 3} (h : v.vr.displayMode = .other raw) :
    v.background L k = ({ v with modeFault := true }, k) := by
  simp only [Vdp.background, h]

/-- A tick on an active line: the background, then the sprites on what it left (R830, R831). -/
theorem State.tick_active (s : State) (h : s.vdp.nextLine < 192) :
    let v := { s.vdp with line := s.vdp.nextLine }
    let drawn := v.background v.line ⟨v.fb, []⟩
    let done := drawn.1.sprites v.line drawn.2
    s.tick = { s with events := s.events ++ done.2.log, vdp := { done.1 with fb := done.2.fb } } := by
  have hw : Params.vdpStartLine ≤ s.vdp.nextLine ∧ s.vdp.nextLine ≤ Params.vdpEndLine :=
    ⟨Nat.zero_le _, Nat.le_of_lt_succ h⟩
  simp only [State.tick, if_pos hw]
  rfl

end Sys2Proof.Machine
end

