-- ==== Sys2Proof/Laws/State.lean ====
section
/-! SUPPORT. One lemma per field of `State` per update of Machine/Ops.lean, each true by `rfl`. -/

namespace Sys2Proof.Machine

/-! ### setReg -/

@[simp] theorem State.setReg_bank0 (s : State) (q : RegName) (v : Byte) : (s.setReg q v).bank0 = if s.selector q then s.bank0 else s.bank0.set q v := rfl
@[simp] theorem State.setReg_bank1 (s : State) (q : RegName) (v : Byte) : (s.setReg q v).bank1 = if s.selector q then s.bank1.set q v else s.bank1 := rfl
@[simp] theorem State.setReg_afSel (s : State) (q : RegName) (v : Byte) : (s.setReg q v).afSel = s.afSel := rfl
@[simp] theorem State.setReg_mainSel (s : State) (q : RegName) (v : Byte) : (s.setReg q v).mainSel = s.mainSel := rfl
@[simp] theorem State.setReg_ix (s : State) (q : RegName) (v : Byte) : (s.setReg q v).ix = s.ix := rfl
@[simp] theorem State.setReg_iy (s : State) (q : RegName) (v : Byte) : (s.setReg q v).iy = s.iy := rfl
@[simp] theorem State.setReg_sp (s : State) (q : RegName) (v : Byte) : (s.setReg q v).sp = s.sp := rfl
@[simp] theorem State.setReg_pc (s : State) (q : RegName) (v : Byte) : (s.setReg q v).pc = s.pc := rfl
@[simp] theorem State.setReg_iReg (s : State) (q : RegName) (v : Byte) : (s.setReg q v).iReg = s.iReg := rfl
@[simp] theorem State.setReg_rReg (s : State) (q : RegName) (v : Byte) : (s.setReg q v).rReg = s.rReg := rfl
@[simp] theorem State.setReg_iff1 (s : State) (q : RegName) (v : Byte) : (s.setReg q v).iff1 = s.iff1 := rfl
@[simp] theorem State.setReg_iff2 (s : State) (q : RegName) (v : Byte) : (s.setReg q v).iff2 = s.iff2 := rfl
@[simp] theorem State.setReg_iff3 (s : State) (q : RegName) (v : Byte) : (s.setReg q v).iff3 = s.iff3 := rfl
@[simp] theorem State.setReg_im (s : State) (q : RegName) (v : Byte) : (s.setReg q v).im = s.im := rfl
@[simp] theorem State.setReg_halted (s : State) (q : RegName) (v : Byte) : (s.setReg q v).halted = s.halted := rfl
@[simp] theorem State.setReg_nmiPending (s : State) (q : RegName) (v : Byte) : (s.setReg q v).nmiPending = s.nmiPending := rfl
@[simp] theorem State.setReg_fault (s : State) (q : RegName) (v : Byte) : (s.setReg q v).fault = s.fault := rfl
@[simp] theorem State.setReg_periodCounter (s : State) (q : RegName) (v : Byte) : (s.setReg q v).periodCounter = s.periodCounter := rfl
@[simp] theorem State.setReg_vdp (s : State) (q : RegName) (v : Byte) : (s.setReg q v).vdp = s.vdp := rfl
@[simp] theorem State.setReg_joyMode (s : State) (q : RegName) (v : Byte) : (s.setReg q v).joyMode = s.joyMode := rfl
@[simp] theorem State.setReg_events (s : State) (q : RegName) (v : Byte) : (s.setReg q v).events = s.events := rfl
@[simp] theorem State.setReg_mem (s : State) (q : RegName) (v : Byte) : (s.setReg q v).mem = s.mem := rfl
@[simp] theorem State.setReg_host (s : State) (q : RegName) (v : Byte) : (s.setReg q v).host = s.host := rfl
@[simp] theorem State.setReg_hostPlan (s : State) (q : RegName) (v : Byte) : (s.setReg q v).hostPlan = s.hostPlan := rfl
@[simp] theorem State.setReg_cost (s : State) (q : RegName) (v : Byte) : (s.setReg q v).cost = s.cost := rfl

/-! ### setIndex -/

@[simp] theorem State.setIndex_bank0 (s : State) (xy : Index) (v : Word) : (s.setIndex xy v).bank0 = s.bank0 := rfl
@[simp] theorem State.setIndex_bank1 (s : State) (xy : Index) (v : Word) : (s.setIndex xy v).bank1 = s.bank1 := rfl
@[simp] theorem State.setIndex_afSel (s : State) (xy : Index) (v : Word) : (s.setIndex xy v).afSel = s.afSel := rfl
@[simp] theorem State.setIndex_mainSel (s : State) (xy : Index) (v : Word) : (s.setIndex xy v).mainSel = s.mainSel := rfl
@[simp] theorem State.setIndex_ix (s : State) (xy : Index) (v : Word) : (s.setIndex xy v).ix = if xy = .ix then v else s.ix := rfl
@[simp] theorem State.setIndex_iy (s : State) (xy : Index) (v : Word) : (s.setIndex xy v).iy = if xy = .iy then v else s.iy := rfl
@[simp] theorem State.setIndex_sp (s : State) (xy : Index) (v : Word) : (s.setIndex xy v).sp = s.sp := rfl
@[simp] theorem State.setIndex_pc (s : State) (xy : Index) (v : Word) : (s.setIndex xy v).pc = s.pc := rfl
@[simp] theorem State.setIndex_iReg (s : State) (xy : Index) (v : Word) : (s.setIndex xy v).iReg = s.iReg := rfl
@[simp] theorem State.setIndex_rReg (s : State) (xy : Index) (v : Word) : (s.setIndex xy v).rReg = s.rReg := rfl
@[simp] theorem State.setIndex_iff1 (s : State) (xy : Index) (v : Word) : (s.setIndex xy v).iff1 = s.iff1 := rfl
@[simp] theorem State.setIndex_iff2 (s : State) (xy : Index) (v : Word) : (s.setIndex xy v).iff2 = s.iff2 := rfl
@[simp] theorem State.setIndex_iff3 (s : State) (xy : Index) (v : Word) : (s.setIndex xy v).iff3 = s.iff3 := rfl
@[simp] theorem State.setIndex_im (s : State) (xy : Index) (v : Word) : (s.setIndex xy v).im = s.im := rfl
@[simp] theorem State.setIndex_halted (s : State) (xy : Index) (v : Word) : (s.setIndex xy v).halted = s.halted := rfl
@[simp] theorem State.setIndex_nmiPending (s : State) (xy : Index) (v : Word) : (s.setIndex xy v).nmiPending = s.nmiPending := rfl
@[simp] theorem State.setIndex_fault (s : State) (xy : Index) (v : Word) : (s.setIndex xy v).fault = s.fault := rfl
@[simp] theorem State.setIndex_periodCounter (s : State) (xy : Index) (v : Word) : (s.setIndex xy v).periodCounter = s.periodCounter := rfl
@[simp] theorem State.setIndex_vdp (s : State) (xy : Index) (v : Word) : (s.setIndex xy v).vdp = s.vdp := rfl
@[simp] theorem State.setIndex_joyMode (s : State) (xy : Index) (v : Word) : (s.setIndex xy v).joyMode = s.joyMode := rfl
@[simp] theorem State.setIndex_events (s : State) (xy : Index) (v : Word) : (s.setIndex xy v).events = s.events := rfl
@[simp] theorem State.setIndex_mem (s : State) (xy : Index) (v : Word) : (s.setIndex xy v).mem = s.mem := rfl
@[simp] theorem State.setIndex_host (s : State) (xy : Index) (v : Word) : (s.setIndex xy v).host = s.host := rfl
@[simp] theorem State.setIndex_hostPlan (s : State) (xy : Index) (v : Word) : (s.setIndex xy v).hostPlan = s.hostPlan := rfl
@[simp] theorem State.setIndex_cost (s : State) (xy : Index) (v : Word) : (s.setIndex xy v).cost = s.cost := rfl

/-! ### setSp -/

@[simp] theorem State.setSp_bank0 (s : State) (v : Word) : (s.setSp v).bank0 = s.bank0 := rfl
@[simp] theorem State.setSp_bank1 (s : State) (v : Word) : (s.setSp v).bank1 = s.bank1 := rfl
@[simp] theorem State.setSp_afSel (s : State) (v : Word) : (s.setSp v).afSel = s.afSel := rfl
@[simp] theorem State.setSp_mainSel (s : State) (v : Word) : (s.setSp v).mainSel = s.mainSel := rfl
@[simp] theorem State.setSp_ix (s : State) (v : Word) : (s.setSp v).ix = s.ix := rfl
@[simp] theorem State.setSp_iy (s : State) (v : Word) : (s.setSp v).iy = s.iy := rfl
@[simp] theorem State.setSp_sp (s : State) (v : Word) : (s.setSp v).sp = v := rfl
@[simp] theorem State.setSp_pc (s : State) (v : Word) : (s.setSp v).pc = s.pc := rfl
@[simp] theorem State.setSp_iReg (s : State) (v : Word) : (s.setSp v).iReg = s.iReg := rfl
@[simp] theorem State.setSp_rReg (s : State) (v : Word) : (s.setSp v).rReg = s.rReg := rfl
@[simp] theorem State.setSp_iff1 (s : State) (v : Word) : (s.setSp v).iff1 = s.iff1 := rfl
@[simp] theorem State.setSp_iff2 (s : State) (v : Word) : (s.setSp v).iff2 = s.iff2 := rfl
@[simp] theorem State.setSp_iff3 (s : State) (v : Word) : (s.setSp v).iff3 = s.iff3 := rfl
@[simp] theorem State.setSp_im (s : State) (v : Word) : (s.setSp v).im = s.im := rfl
@[simp] theorem State.setSp_halted (s : State) (v : Word) : (s.setSp v).halted = s.halted := rfl
@[simp] theorem State.setSp_nmiPending (s : State) (v : Word) : (s.setSp v).nmiPending = s.nmiPending := rfl
@[simp] theorem State.setSp_fault (s : State) (v : Word) : (s.setSp v).fault = s.fault := rfl
@[simp] theorem State.setSp_periodCounter (s : State) (v : Word) : (s.setSp v).periodCounter = s.periodCounter := rfl
@[simp] theorem State.setSp_vdp (s : State) (v : Word) : (s.setSp v).vdp = s.vdp := rfl
@[simp] theorem State.setSp_joyMode (s : State) (v : Word) : (s.setSp v).joyMode = s.joyMode := rfl
@[simp] theorem State.setSp_events (s : State) (v : Word) : (s.setSp v).events = s.events := rfl
@[simp] theorem State.setSp_mem (s : State) (v : Word) : (s.setSp v).mem = s.mem := rfl
@[simp] theorem State.setSp_host (s : State) (v : Word) : (s.setSp v).host = s.host := rfl
@[simp] theorem State.setSp_hostPlan (s : State) (v : Word) : (s.setSp v).hostPlan = s.hostPlan := rfl
@[simp] theorem State.setSp_cost (s : State) (v : Word) : (s.setSp v).cost = s.cost := rfl

/-! ### setPc -/

@[simp] theorem State.setPc_bank0 (s : State) (v : Word) : (s.setPc v).bank0 = s.bank0 := rfl
@[simp] theorem State.setPc_bank1 (s : State) (v : Word) : (s.setPc v).bank1 = s.bank1 := rfl
@[simp] theorem State.setPc_afSel (s : State) (v : Word) : (s.setPc v).afSel = s.afSel := rfl
@[simp] theorem State.setPc_mainSel (s : State) (v : Word) : (s.setPc v).mainSel = s.mainSel := rfl
@[simp] theorem State.setPc_ix (s : State) (v : Word) : (s.setPc v).ix = s.ix := rfl
@[simp] theorem State.setPc_iy (s : State) (v : Word) : (s.setPc v).iy = s.iy := rfl
@[simp] theorem State.setPc_sp (s : State) (v : Word) : (s.setPc v).sp = s.sp := rfl
@[simp] theorem State.setPc_pc (s : State) (v : Word) : (s.setPc v).pc = v := rfl
@[simp] theorem State.setPc_iReg (s : State) (v : Word) : (s.setPc v).iReg = s.iReg := rfl
@[simp] theorem State.setPc_rReg (s : State) (v : Word) : (s.setPc v).rReg = s.rReg := rfl
@[simp] theorem State.setPc_iff1 (s : State) (v : Word) : (s.setPc v).iff1 = s.iff1 := rfl
@[simp] theorem State.setPc_iff2 (s : State) (v : Word) : (s.setPc v).iff2 = s.iff2 := rfl
@[simp] theorem State.setPc_iff3 (s : State) (v : Word) : (s.setPc v).iff3 = s.iff3 := rfl
@[simp] theorem State.setPc_im (s : State) (v : Word) : (s.setPc v).im = s.im := rfl
@[simp] theorem State.setPc_halted (s : State) (v : Word) : (s.setPc v).halted = s.halted := rfl
@[simp] theorem State.setPc_nmiPending (s : State) (v : Word) : (s.setPc v).nmiPending = s.nmiPending := rfl
@[simp] theorem State.setPc_fault (s : State) (v : Word) : (s.setPc v).fault = s.fault := rfl
@[simp] theorem State.setPc_periodCounter (s : State) (v : Word) : (s.setPc v).periodCounter = s.periodCounter := rfl
@[simp] theorem State.setPc_vdp (s : State) (v : Word) : (s.setPc v).vdp = s.vdp := rfl
@[simp] theorem State.setPc_joyMode (s : State) (v : Word) : (s.setPc v).joyMode = s.joyMode := rfl
@[simp] theorem State.setPc_events (s : State) (v : Word) : (s.setPc v).events = s.events := rfl
@[simp] theorem State.setPc_mem (s : State) (v : Word) : (s.setPc v).mem = s.mem := rfl
@[simp] theorem State.setPc_host (s : State) (v : Word) : (s.setPc v).host = s.host := rfl
@[simp] theorem State.setPc_hostPlan (s : State) (v : Word) : (s.setPc v).hostPlan = s.hostPlan := rfl
@[simp] theorem State.setPc_cost (s : State) (v : Word) : (s.setPc v).cost = s.cost := rfl

/-! ### setI -/

@[simp] theorem State.setI_bank0 (s : State) (v : Byte) : (s.setI v).bank0 = s.bank0 := rfl
@[simp] theorem State.setI_bank1 (s : State) (v : Byte) : (s.setI v).bank1 = s.bank1 := rfl
@[simp] theorem State.setI_afSel (s : State) (v : Byte) : (s.setI v).afSel = s.afSel := rfl
@[simp] theorem State.setI_mainSel (s : State) (v : Byte) : (s.setI v).mainSel = s.mainSel := rfl
@[simp] theorem State.setI_ix (s : State) (v : Byte) : (s.setI v).ix = s.ix := rfl
@[simp] theorem State.setI_iy (s : State) (v : Byte) : (s.setI v).iy = s.iy := rfl
@[simp] theorem State.setI_sp (s : State) (v : Byte) : (s.setI v).sp = s.sp := rfl
@[simp] theorem State.setI_pc (s : State) (v : Byte) : (s.setI v).pc = s.pc := rfl
@[simp] theorem State.setI_iReg (s : State) (v : Byte) : (s.setI v).iReg = v := rfl
@[simp] theorem State.setI_rReg (s : State) (v : Byte) : (s.setI v).rReg = s.rReg := rfl
@[simp] theorem State.setI_iff1 (s : State) (v : Byte) : (s.setI v).iff1 = s.iff1 := rfl
@[simp] theorem State.setI_iff2 (s : State) (v : Byte) : (s.setI v).iff2 = s.iff2 := rfl
@[simp] theorem State.setI_iff3 (s : State) (v : Byte) : (s.setI v).iff3 = s.iff3 := rfl
@[simp] theorem State.setI_im (s : State) (v : Byte) : (s.setI v).im = s.im := rfl
@[simp] theorem State.setI_halted (s : State) (v : Byte) : (s.setI v).halted = s.halted := rfl
@[simp] theorem State.setI_nmiPending (s : State) (v : Byte) : (s.setI v).nmiPending = s.nmiPending := rfl
@[simp] theorem State.setI_fault (s : State) (v : Byte) : (s.setI v).fault = s.fault := rfl
@[simp] theorem State.setI_periodCounter (s : State) (v : Byte) : (s.setI v).periodCounter = s.periodCounter := rfl
@[simp] theorem State.setI_vdp (s : State) (v : Byte) : (s.setI v).vdp = s.vdp := rfl
@[simp] theorem State.setI_joyMode (s : State) (v : Byte) : (s.setI v).joyMode = s.joyMode := rfl
@[simp] theorem State.setI_events (s : State) (v : Byte) : (s.setI v).events = s.events := rfl
@[simp] theorem State.setI_mem (s : State) (v : Byte) : (s.setI v).mem = s.mem := rfl
@[simp] theorem State.setI_host (s : State) (v : Byte) : (s.setI v).host = s.host := rfl
@[simp] theorem State.setI_hostPlan (s : State) (v : Byte) : (s.setI v).hostPlan = s.hostPlan := rfl
@[simp] theorem State.setI_cost (s : State) (v : Byte) : (s.setI v).cost = s.cost := rfl

/-! ### setR -/

@[simp] theorem State.setR_bank0 (s : State) (v : Byte) : (s.setR v).bank0 = s.bank0 := rfl
@[simp] theorem State.setR_bank1 (s : State) (v : Byte) : (s.setR v).bank1 = s.bank1 := rfl
@[simp] theorem State.setR_afSel (s : State) (v : Byte) : (s.setR v).afSel = s.afSel := rfl
@[simp] theorem State.setR_mainSel (s : State) (v : Byte) : (s.setR v).mainSel = s.mainSel := rfl
@[simp] theorem State.setR_ix (s : State) (v : Byte) : (s.setR v).ix = s.ix := rfl
@[simp] theorem State.setR_iy (s : State) (v : Byte) : (s.setR v).iy = s.iy := rfl
@[simp] theorem State.setR_sp (s : State) (v : Byte) : (s.setR v).sp = s.sp := rfl
@[simp] theorem State.setR_pc (s : State) (v : Byte) : (s.setR v).pc = s.pc := rfl
@[simp] theorem State.setR_iReg (s : State) (v : Byte) : (s.setR v).iReg = s.iReg := rfl
@[simp] theorem State.setR_rReg (s : State) (v : Byte) : (s.setR v).rReg = v := rfl
@[simp] theorem State.setR_iff1 (s : State) (v : Byte) : (s.setR v).iff1 = s.iff1 := rfl
@[simp] theorem State.setR_iff2 (s : State) (v : Byte) : (s.setR v).iff2 = s.iff2 := rfl
@[simp] theorem State.setR_iff3 (s : State) (v : Byte) : (s.setR v).iff3 = s.iff3 := rfl
@[simp] theorem State.setR_im (s : State) (v : Byte) : (s.setR v).im = s.im := rfl
@[simp] theorem State.setR_halted (s : State) (v : Byte) : (s.setR v).halted = s.halted := rfl
@[simp] theorem State.setR_nmiPending (s : State) (v : Byte) : (s.setR v).nmiPending = s.nmiPending := rfl
@[simp] theorem State.setR_fault (s : State) (v : Byte) : (s.setR v).fault = s.fault := rfl
@[simp] theorem State.setR_periodCounter (s : State) (v : Byte) : (s.setR v).periodCounter = s.periodCounter := rfl
@[simp] theorem State.setR_vdp (s : State) (v : Byte) : (s.setR v).vdp = s.vdp := rfl
@[simp] theorem State.setR_joyMode (s : State) (v : Byte) : (s.setR v).joyMode = s.joyMode := rfl
@[simp] theorem State.setR_events (s : State) (v : Byte) : (s.setR v).events = s.events := rfl
@[simp] theorem State.setR_mem (s : State) (v : Byte) : (s.setR v).mem = s.mem := rfl
@[simp] theorem State.setR_host (s : State) (v : Byte) : (s.setR v).host = s.host := rfl
@[simp] theorem State.setR_hostPlan (s : State) (v : Byte) : (s.setR v).hostPlan = s.hostPlan := rfl
@[simp] theorem State.setR_cost (s : State) (v : Byte) : (s.setR v).cost = s.cost := rfl

/-! ### setIff1 -/

@[simp] theorem State.setIff1_bank0 (s : State) (v : Bool) : (s.setIff1 v).bank0 = s.bank0 := rfl
@[simp] theorem State.setIff1_bank1 (s : State) (v : Bool) : (s.setIff1 v).bank1 = s.bank1 := rfl
@[simp] theorem State.setIff1_afSel (s : State) (v : Bool) : (s.setIff1 v).afSel = s.afSel := rfl
@[simp] theorem State.setIff1_mainSel (s : State) (v : Bool) : (s.setIff1 v).mainSel = s.mainSel := rfl
@[simp] theorem State.setIff1_ix (s : State) (v : Bool) : (s.setIff1 v).ix = s.ix := rfl
@[simp] theorem State.setIff1_iy (s : State) (v : Bool) : (s.setIff1 v).iy = s.iy := rfl
@[simp] theorem State.setIff1_sp (s : State) (v : Bool) : (s.setIff1 v).sp = s.sp := rfl
@[simp] theorem State.setIff1_pc (s : State) (v : Bool) : (s.setIff1 v).pc = s.pc := rfl
@[simp] theorem State.setIff1_iReg (s : State) (v : Bool) : (s.setIff1 v).iReg = s.iReg := rfl
@[simp] theorem State.setIff1_rReg (s : State) (v : Bool) : (s.setIff1 v).rReg = s.rReg := rfl
@[simp] theorem State.setIff1_iff1 (s : State) (v : Bool) : (s.setIff1 v).iff1 = v := rfl
@[simp] theorem State.setIff1_iff2 (s : State) (v : Bool) : (s.setIff1 v).iff2 = s.iff2 := rfl
@[simp] theorem State.setIff1_iff3 (s : State) (v : Bool) : (s.setIff1 v).iff3 = s.iff3 := rfl
@[simp] theorem State.setIff1_im (s : State) (v : Bool) : (s.setIff1 v).im = s.im := rfl
@[simp] theorem State.setIff1_halted (s : State) (v : Bool) : (s.setIff1 v).halted = s.halted := rfl
@[simp] theorem State.setIff1_nmiPending (s : State) (v : Bool) : (s.setIff1 v).nmiPending = s.nmiPending := rfl
@[simp] theorem State.setIff1_fault (s : State) (v : Bool) : (s.setIff1 v).fault = s.fault := rfl
@[simp] theorem State.setIff1_periodCounter (s : State) (v : Bool) : (s.setIff1 v).periodCounter = s.periodCounter := rfl
@[simp] theorem State.setIff1_vdp (s : State) (v : Bool) : (s.setIff1 v).vdp = s.vdp := rfl
@[simp] theorem State.setIff1_joyMode (s : State) (v : Bool) : (s.setIff1 v).joyMode = s.joyMode := rfl
@[simp] theorem State.setIff1_events (s : State) (v : Bool) : (s.setIff1 v).events = s.events := rfl
@[simp] theorem State.setIff1_mem (s : State) (v : Bool) : (s.setIff1 v).mem = s.mem := rfl
@[simp] theorem State.setIff1_host (s : State) (v : Bool) : (s.setIff1 v).host = s.host := rfl
@[simp] theorem State.setIff1_hostPlan (s : State) (v : Bool) : (s.setIff1 v).hostPlan = s.hostPlan := rfl
@[simp] theorem State.setIff1_cost (s : State) (v : Bool) : (s.setIff1 v).cost = s.cost := rfl

/-! ### setIff2 -/

@[simp] theorem State.setIff2_bank0 (s : State) (v : Bool) : (s.setIff2 v).bank0 = s.bank0 := rfl
@[simp] theorem State.setIff2_bank1 (s : State) (v : Bool) : (s.setIff2 v).bank1 = s.bank1 := rfl
@[simp] theorem State.setIff2_afSel (s : State) (v : Bool) : (s.setIff2 v).afSel = s.afSel := rfl
@[simp] theorem State.setIff2_mainSel (s : State) (v : Bool) : (s.setIff2 v).mainSel = s.mainSel := rfl
@[simp] theorem State.setIff2_ix (s : State) (v : Bool) : (s.setIff2 v).ix = s.ix := rfl
@[simp] theorem State.setIff2_iy (s : State) (v : Bool) : (s.setIff2 v).iy = s.iy := rfl
@[simp] theorem State.setIff2_sp (s : State) (v : Bool) : (s.setIff2 v).sp = s.sp := rfl
@[simp] theorem State.setIff2_pc (s : State) (v : Bool) : (s.setIff2 v).pc = s.pc := rfl
@[simp] theorem State.setIff2_iReg (s : State) (v : Bool) : (s.setIff2 v).iReg = s.iReg := rfl
@[simp] theorem State.setIff2_rReg (s : State) (v : Bool) : (s.setIff2 v).rReg = s.rReg := rfl
@[simp] theorem State.setIff2_iff1 (s : State) (v : Bool) : (s.setIff2 v).iff1 = s.iff1 := rfl
@[simp] theorem State.setIff2_iff2 (s : State) (v : Bool) : (s.setIff2 v).iff2 = v := rfl
@[simp] theorem State.setIff2_iff3 (s : State) (v : Bool) : (s.setIff2 v).iff3 = s.iff3 := rfl
@[simp] theorem State.setIff2_im (s : State) (v : Bool) : (s.setIff2 v).im = s.im := rfl
@[simp] theorem State.setIff2_halted (s : State) (v : Bool) : (s.setIff2 v).halted = s.halted := rfl
@[simp] theorem State.setIff2_nmiPending (s : State) (v : Bool) : (s.setIff2 v).nmiPending = s.nmiPending := rfl
@[simp] theorem State.setIff2_fault (s : State) (v : Bool) : (s.setIff2 v).fault = s.fault := rfl
@[simp] theorem State.setIff2_periodCounter (s : State) (v : Bool) : (s.setIff2 v).periodCounter = s.periodCounter := rfl
@[simp] theorem State.setIff2_vdp (s : State) (v : Bool) : (s.setIff2 v).vdp = s.vdp := rfl
@[simp] theorem State.setIff2_joyMode (s : State) (v : Bool) : (s.setIff2 v).joyMode = s.joyMode := rfl
@[simp] theorem State.setIff2_events (s : State) (v : Bool) : (s.setIff2 v).events = s.events := rfl
@[simp] theorem State.setIff2_mem (s : State) (v : Bool) : (s.setIff2 v).mem = s.mem := rfl
@[simp] theorem State.setIff2_host (s : State) (v : Bool) : (s.setIff2 v).host = s.host := rfl
@[simp] theorem State.setIff2_hostPlan (s : State) (v : Bool) : (s.setIff2 v).hostPlan = s.hostPlan := rfl
@[simp] theorem State.setIff2_cost (s : State) (v : Bool) : (s.setIff2 v).cost = s.cost := rfl

/-! ### setIm -/

@[simp] theorem State.setIm_bank0 (s : State) (m : IntMode) : (s.setIm m).bank0 = s.bank0 := rfl
@[simp] theorem State.setIm_bank1 (s : State) (m : IntMode) : (s.setIm m).bank1 = s.bank1 := rfl
@[simp] theorem State.setIm_afSel (s : State) (m : IntMode) : (s.setIm m).afSel = s.afSel := rfl
@[simp] theorem State.setIm_mainSel (s : State) (m : IntMode) : (s.setIm m).mainSel = s.mainSel := rfl
@[simp] theorem State.setIm_ix (s : State) (m : IntMode) : (s.setIm m).ix = s.ix := rfl
@[simp] theorem State.setIm_iy (s : State) (m : IntMode) : (s.setIm m).iy = s.iy := rfl
@[simp] theorem State.setIm_sp (s : State) (m : IntMode) : (s.setIm m).sp = s.sp := rfl
@[simp] theorem State.setIm_pc (s : State) (m : IntMode) : (s.setIm m).pc = s.pc := rfl
@[simp] theorem State.setIm_iReg (s : State) (m : IntMode) : (s.setIm m).iReg = s.iReg := rfl
@[simp] theorem State.setIm_rReg (s : State) (m : IntMode) : (s.setIm m).rReg = s.rReg := rfl
@[simp] theorem State.setIm_iff1 (s : State) (m : IntMode) : (s.setIm m).iff1 = s.iff1 := rfl
@[simp] theorem State.setIm_iff2 (s : State) (m : IntMode) : (s.setIm m).iff2 = s.iff2 := rfl
@[simp] theorem State.setIm_iff3 (s : State) (m : IntMode) : (s.setIm m).iff3 = s.iff3 := rfl
@[simp] theorem State.setIm_im (s : State) (m : IntMode) : (s.setIm m).im = m := rfl
@[simp] theorem State.setIm_halted (s : State) (m : IntMode) : (s.setIm m).halted = s.halted := rfl
@[simp] theorem State.setIm_nmiPending (s : State) (m : IntMode) : (s.setIm m).nmiPending = s.nmiPending := rfl
@[simp] theorem State.setIm_fault (s : State) (m : IntMode) : (s.setIm m).fault = s.fault := rfl
@[simp] theorem State.setIm_periodCounter (s : State) (m : IntMode) : (s.setIm m).periodCounter = s.periodCounter := rfl
@[simp] theorem State.setIm_vdp (s : State) (m : IntMode) : (s.setIm m).vdp = s.vdp := rfl
@[simp] theorem State.setIm_joyMode (s : State) (m : IntMode) : (s.setIm m).joyMode = s.joyMode := rfl
@[simp] theorem State.setIm_events (s : State) (m : IntMode) : (s.setIm m).events = s.events := rfl
@[simp] theorem State.setIm_mem (s : State) (m : IntMode) : (s.setIm m).mem = s.mem := rfl
@[simp] theorem State.setIm_host (s : State) (m : IntMode) : (s.setIm m).host = s.host := rfl
@[simp] theorem State.setIm_hostPlan (s : State) (m : IntMode) : (s.setIm m).hostPlan = s.hostPlan := rfl
@[simp] theorem State.setIm_cost (s : State) (m : IntMode) : (s.setIm m).cost = s.cost := rfl

/-! ### setHalted -/

@[simp] theorem State.setHalted_bank0 (s : State) (v : Bool) : (s.setHalted v).bank0 = s.bank0 := rfl
@[simp] theorem State.setHalted_bank1 (s : State) (v : Bool) : (s.setHalted v).bank1 = s.bank1 := rfl
@[simp] theorem State.setHalted_afSel (s : State) (v : Bool) : (s.setHalted v).afSel = s.afSel := rfl
@[simp] theorem State.setHalted_mainSel (s : State) (v : Bool) : (s.setHalted v).mainSel = s.mainSel := rfl
@[simp] theorem State.setHalted_ix (s : State) (v : Bool) : (s.setHalted v).ix = s.ix := rfl
@[simp] theorem State.setHalted_iy (s : State) (v : Bool) : (s.setHalted v).iy = s.iy := rfl
@[simp] theorem State.setHalted_sp (s : State) (v : Bool) : (s.setHalted v).sp = s.sp := rfl
@[simp] theorem State.setHalted_pc (s : State) (v : Bool) : (s.setHalted v).pc = s.pc := rfl
@[simp] theorem State.setHalted_iReg (s : State) (v : Bool) : (s.setHalted v).iReg = s.iReg := rfl
@[simp] theorem State.setHalted_rReg (s : State) (v : Bool) : (s.setHalted v).rReg = s.rReg := rfl
@[simp] theorem State.setHalted_iff1 (s : State) (v : Bool) : (s.setHalted v).iff1 = s.iff1 := rfl
@[simp] theorem State.setHalted_iff2 (s : State) (v : Bool) : (s.setHalted v).iff2 = s.iff2 := rfl
@[simp] theorem State.setHalted_iff3 (s : State) (v : Bool) : (s.setHalted v).iff3 = s.iff3 := rfl
@[simp] theorem State.setHalted_im (s : State) (v : Bool) : (s.setHalted v).im = s.im := rfl
@[simp] theorem State.setHalted_halted (s : State) (v : Bool) : (s.setHalted v).halted = v := rfl
@[simp] theorem State.setHalted_nmiPending (s : State) (v : Bool) : (s.setHalted v).nmiPending = s.nmiPending := rfl
@[simp] theorem State.setHalted_fault (s : State) (v : Bool) : (s.setHalted v).fault = s.fault := rfl
@[simp] theorem State.setHalted_periodCounter (s : State) (v : Bool) : (s.setHalted v).periodCounter = s.periodCounter := rfl
@[simp] theorem State.setHalted_vdp (s : State) (v : Bool) : (s.setHalted v).vdp = s.vdp := rfl
@[simp] theorem State.setHalted_joyMode (s : State) (v : Bool) : (s.setHalted v).joyMode = s.joyMode := rfl
@[simp] theorem State.setHalted_events (s : State) (v : Bool) : (s.setHalted v).events = s.events := rfl
@[simp] theorem State.setHalted_mem (s : State) (v : Bool) : (s.setHalted v).mem = s.mem := rfl
@[simp] theorem State.setHalted_host (s : State) (v : Bool) : (s.setHalted v).host = s.host := rfl
@[simp] theorem State.setHalted_hostPlan (s : State) (v : Bool) : (s.setHalted v).hostPlan = s.hostPlan := rfl
@[simp] theorem State.setHalted_cost (s : State) (v : Bool) : (s.setHalted v).cost = s.cost := rfl

/-! ### setNmiPending -/

@[simp] theorem State.setNmiPending_bank0 (s : State) (v : Bool) : (s.setNmiPending v).bank0 = s.bank0 := rfl
@[simp] theorem State.setNmiPending_bank1 (s : State) (v : Bool) : (s.setNmiPending v).bank1 = s.bank1 := rfl
@[simp] theorem State.setNmiPending_afSel (s : State) (v : Bool) : (s.setNmiPending v).afSel = s.afSel := rfl
@[simp] theorem State.setNmiPending_mainSel (s : State) (v : Bool) : (s.setNmiPending v).mainSel = s.mainSel := rfl
@[simp] theorem State.setNmiPending_ix (s : State) (v : Bool) : (s.setNmiPending v).ix = s.ix := rfl
@[simp] theorem State.setNmiPending_iy (s : State) (v : Bool) : (s.setNmiPending v).iy = s.iy := rfl
@[simp] theorem State.setNmiPending_sp (s : State) (v : Bool) : (s.setNmiPending v).sp = s.sp := rfl
@[simp] theorem State.setNmiPending_pc (s : State) (v : Bool) : (s.setNmiPending v).pc = s.pc := rfl
@[simp] theorem State.setNmiPending_iReg (s : State) (v : Bool) : (s.setNmiPending v).iReg = s.iReg := rfl
@[simp] theorem State.setNmiPending_rReg (s : State) (v : Bool) : (s.setNmiPending v).rReg = s.rReg := rfl
@[simp] theorem State.setNmiPending_iff1 (s : State) (v : Bool) : (s.setNmiPending v).iff1 = s.iff1 := rfl
@[simp] theorem State.setNmiPending_iff2 (s : State) (v : Bool) : (s.setNmiPending v).iff2 = s.iff2 := rfl
@[simp] theorem State.setNmiPending_iff3 (s : State) (v : Bool) : (s.setNmiPending v).iff3 = s.iff3 := rfl
@[simp] theorem State.setNmiPending_im (s : State) (v : Bool) : (s.setNmiPending v).im = s.im := rfl
@[simp] theorem State.setNmiPending_halted (s : State) (v : Bool) : (s.setNmiPending v).halted = s.halted := rfl
@[simp] theorem State.setNmiPending_nmiPending (s : State) (v : Bool) : (s.setNmiPending v).nmiPending = v := rfl
@[simp] theorem State.setNmiPending_fault (s : State) (v : Bool) : (s.setNmiPending v).fault = s.fault := rfl
@[simp] theorem State.setNmiPending_periodCounter (s : State) (v : Bool) : (s.setNmiPending v).periodCounter = s.periodCounter := rfl
@[simp] theorem State.setNmiPending_vdp (s : State) (v : Bool) : (s.setNmiPending v).vdp = s.vdp := rfl
@[simp] theorem State.setNmiPending_joyMode (s : State) (v : Bool) : (s.setNmiPending v).joyMode = s.joyMode := rfl
@[simp] theorem State.setNmiPending_events (s : State) (v : Bool) : (s.setNmiPending v).events = s.events := rfl
@[simp] theorem State.setNmiPending_mem (s : State) (v : Bool) : (s.setNmiPending v).mem = s.mem := rfl
@[simp] theorem State.setNmiPending_host (s : State) (v : Bool) : (s.setNmiPending v).host = s.host := rfl
@[simp] theorem State.setNmiPending_hostPlan (s : State) (v : Bool) : (s.setNmiPending v).hostPlan = s.hostPlan := rfl
@[simp] theorem State.setNmiPending_cost (s : State) (v : Bool) : (s.setNmiPending v).cost = s.cost := rfl

/-! ### toggleAf -/

@[simp] theorem State.toggleAf_bank0 (s : State) : (s.toggleAf).bank0 = s.bank0 := rfl
@[simp] theorem State.toggleAf_bank1 (s : State) : (s.toggleAf).bank1 = s.bank1 := rfl
@[simp] theorem State.toggleAf_afSel (s : State) : (s.toggleAf).afSel = !s.afSel := rfl
@[simp] theorem State.toggleAf_mainSel (s : State) : (s.toggleAf).mainSel = s.mainSel := rfl
@[simp] theorem State.toggleAf_ix (s : State) : (s.toggleAf).ix = s.ix := rfl
@[simp] theorem State.toggleAf_iy (s : State) : (s.toggleAf).iy = s.iy := rfl
@[simp] theorem State.toggleAf_sp (s : State) : (s.toggleAf).sp = s.sp := rfl
@[simp] theorem State.toggleAf_pc (s : State) : (s.toggleAf).pc = s.pc := rfl
@[simp] theorem State.toggleAf_iReg (s : State) : (s.toggleAf).iReg = s.iReg := rfl
@[simp] theorem State.toggleAf_rReg (s : State) : (s.toggleAf).rReg = s.rReg := rfl
@[simp] theorem State.toggleAf_iff1 (s : State) : (s.toggleAf).iff1 = s.iff1 := rfl
@[simp] theorem State.toggleAf_iff2 (s : State) : (s.toggleAf).iff2 = s.iff2 := rfl
@[simp] theorem State.toggleAf_iff3 (s : State) : (s.toggleAf).iff3 = s.iff3 := rfl
@[simp] theorem State.toggleAf_im (s : State) : (s.toggleAf).im = s.im := rfl
@[simp] theorem State.toggleAf_halted (s : State) : (s.toggleAf).halted = s.halted := rfl
@[simp] theorem State.toggleAf_nmiPending (s : State) : (s.toggleAf).nmiPending = s.nmiPending := rfl
@[simp] theorem State.toggleAf_fault (s : State) : (s.toggleAf).fault = s.fault := rfl
@[simp] theorem State.toggleAf_periodCounter (s : State) : (s.toggleAf).periodCounter = s.periodCounter := rfl
@[simp] theorem State.toggleAf_vdp (s : State) : (s.toggleAf).vdp = s.vdp := rfl
@[simp] theorem State.toggleAf_joyMode (s : State) : (s.toggleAf).joyMode = s.joyMode := rfl
@[simp] theorem State.toggleAf_events (s : State) : (s.toggleAf).events = s.events := rfl
@[simp] theorem State.toggleAf_mem (s : State) : (s.toggleAf).mem = s.mem := rfl
@[simp] theorem State.toggleAf_host (s : State) : (s.toggleAf).host = s.host := rfl
@[simp] theorem State.toggleAf_hostPlan (s : State) : (s.toggleAf).hostPlan = s.hostPlan := rfl
@[simp] theorem State.toggleAf_cost (s : State) : (s.toggleAf).cost = s.cost := rfl

/-! ### toggleMain -/

@[simp] theorem State.toggleMain_bank0 (s : State) : (s.toggleMain).bank0 = s.bank0 := rfl
@[simp] theorem State.toggleMain_bank1 (s : State) : (s.toggleMain).bank1 = s.bank1 := rfl
@[simp] theorem State.toggleMain_afSel (s : State) : (s.toggleMain).afSel = s.afSel := rfl
@[simp] theorem State.toggleMain_mainSel (s : State) : (s.toggleMain).mainSel = !s.mainSel := rfl
@[simp] theorem State.toggleMain_ix (s : State) : (s.toggleMain).ix = s.ix := rfl
@[simp] theorem State.toggleMain_iy (s : State) : (s.toggleMain).iy = s.iy := rfl
@[simp] theorem State.toggleMain_sp (s : State) : (s.toggleMain).sp = s.sp := rfl
@[simp] theorem State.toggleMain_pc (s : State) : (s.toggleMain).pc = s.pc := rfl
@[simp] theorem State.toggleMain_iReg (s : State) : (s.toggleMain).iReg = s.iReg := rfl
@[simp] theorem State.toggleMain_rReg (s : State) : (s.toggleMain).rReg = s.rReg := rfl
@[simp] theorem State.toggleMain_iff1 (s : State) : (s.toggleMain).iff1 = s.iff1 := rfl
@[simp] theorem State.toggleMain_iff2 (s : State) : (s.toggleMain).iff2 = s.iff2 := rfl
@[simp] theorem State.toggleMain_iff3 (s : State) : (s.toggleMain).iff3 = s.iff3 := rfl
@[simp] theorem State.toggleMain_im (s : State) : (s.toggleMain).im = s.im := rfl
@[simp] theorem State.toggleMain_halted (s : State) : (s.toggleMain).halted = s.halted := rfl
@[simp] theorem State.toggleMain_nmiPending (s : State) : (s.toggleMain).nmiPending = s.nmiPending := rfl
@[simp] theorem State.toggleMain_fault (s : State) : (s.toggleMain).fault = s.fault := rfl
@[simp] theorem State.toggleMain_periodCounter (s : State) : (s.toggleMain).periodCounter = s.periodCounter := rfl
@[simp] theorem State.toggleMain_vdp (s : State) : (s.toggleMain).vdp = s.vdp := rfl
@[simp] theorem State.toggleMain_joyMode (s : State) : (s.toggleMain).joyMode = s.joyMode := rfl
@[simp] theorem State.toggleMain_events (s : State) : (s.toggleMain).events = s.events := rfl
@[simp] theorem State.toggleMain_mem (s : State) : (s.toggleMain).mem = s.mem := rfl
@[simp] theorem State.toggleMain_host (s : State) : (s.toggleMain).host = s.host := rfl
@[simp] theorem State.toggleMain_hostPlan (s : State) : (s.toggleMain).hostPlan = s.hostPlan := rfl
@[simp] theorem State.toggleMain_cost (s : State) : (s.toggleMain).cost = s.cost := rfl

/-! ### setVdp -/

@[simp] theorem State.setVdp_bank0 (s : State) (v : Vdp) : (s.setVdp v).bank0 = s.bank0 := rfl
@[simp] theorem State.setVdp_bank1 (s : State) (v : Vdp) : (s.setVdp v).bank1 = s.bank1 := rfl
@[simp] theorem State.setVdp_afSel (s : State) (v : Vdp) : (s.setVdp v).afSel = s.afSel := rfl
@[simp] theorem State.setVdp_mainSel (s : State) (v : Vdp) : (s.setVdp v).mainSel = s.mainSel := rfl
@[simp] theorem State.setVdp_ix (s : State) (v : Vdp) : (s.setVdp v).ix = s.ix := rfl
@[simp] theorem State.setVdp_iy (s : State) (v : Vdp) : (s.setVdp v).iy = s.iy := rfl
@[simp] theorem State.setVdp_sp (s : State) (v : Vdp) : (s.setVdp v).sp = s.sp := rfl
@[simp] theorem State.setVdp_pc (s : State) (v : Vdp) : (s.setVdp v).pc = s.pc := rfl
@[simp] theorem State.setVdp_iReg (s : State) (v : Vdp) : (s.setVdp v).iReg = s.iReg := rfl
@[simp] theorem State.setVdp_rReg (s : State) (v : Vdp) : (s.setVdp v).rReg = s.rReg := rfl
@[simp] theorem State.setVdp_iff1 (s : State) (v : Vdp) : (s.setVdp v).iff1 = s.iff1 := rfl
@[simp] theorem State.setVdp_iff2 (s : State) (v : Vdp) : (s.setVdp v).iff2 = s.iff2 := rfl
@[simp] theorem State.setVdp_iff3 (s : State) (v : Vdp) : (s.setVdp v).iff3 = s.iff3 := rfl
@[simp] theorem State.setVdp_im (s : State) (v : Vdp) : (s.setVdp v).im = s.im := rfl
@[simp] theorem State.setVdp_halted (s : State) (v : Vdp) : (s.setVdp v).halted = s.halted := rfl
@[simp] theorem State.setVdp_nmiPending (s : State) (v : Vdp) : (s.setVdp v).nmiPending = s.nmiPending := rfl
@[simp] theorem State.setVdp_fault (s : State) (v : Vdp) : (s.setVdp v).fault = s.fault := rfl
@[simp] theorem State.setVdp_periodCounter (s : State) (v : Vdp) : (s.setVdp v).periodCounter = s.periodCounter := rfl
@[simp] theorem State.setVdp_vdp (s : State) (v : Vdp) : (s.setVdp v).vdp = v := rfl
@[simp] theorem State.setVdp_joyMode (s : State) (v : Vdp) : (s.setVdp v).joyMode = s.joyMode := rfl
@[simp] theorem State.setVdp_events (s : State) (v : Vdp) : (s.setVdp v).events = s.events := rfl
@[simp] theorem State.setVdp_mem (s : State) (v : Vdp) : (s.setVdp v).mem = s.mem := rfl
@[simp] theorem State.setVdp_host (s : State) (v : Vdp) : (s.setVdp v).host = s.host := rfl
@[simp] theorem State.setVdp_hostPlan (s : State) (v : Vdp) : (s.setVdp v).hostPlan = s.hostPlan := rfl
@[simp] theorem State.setVdp_cost (s : State) (v : Vdp) : (s.setVdp v).cost = s.cost := rfl

/-! ### setJoyMode -/

@[simp] theorem State.setJoyMode_bank0 (s : State) (m : JoyMode) : (s.setJoyMode m).bank0 = s.bank0 := rfl
@[simp] theorem State.setJoyMode_bank1 (s : State) (m : JoyMode) : (s.setJoyMode m).bank1 = s.bank1 := rfl
@[simp] theorem State.setJoyMode_afSel (s : State) (m : JoyMode) : (s.setJoyMode m).afSel = s.afSel := rfl
@[simp] theorem State.setJoyMode_mainSel (s : State) (m : JoyMode) : (s.setJoyMode m).mainSel = s.mainSel := rfl
@[simp] theorem State.setJoyMode_ix (s : State) (m : JoyMode) : (s.setJoyMode m).ix = s.ix := rfl
@[simp] theorem State.setJoyMode_iy (s : State) (m : JoyMode) : (s.setJoyMode m).iy = s.iy := rfl
@[simp] theorem State.setJoyMode_sp (s : State) (m : JoyMode) : (s.setJoyMode m).sp = s.sp := rfl
@[simp] theorem State.setJoyMode_pc (s : State) (m : JoyMode) : (s.setJoyMode m).pc = s.pc := rfl
@[simp] theorem State.setJoyMode_iReg (s : State) (m : JoyMode) : (s.setJoyMode m).iReg = s.iReg := rfl
@[simp] theorem State.setJoyMode_rReg (s : State) (m : JoyMode) : (s.setJoyMode m).rReg = s.rReg := rfl
@[simp] theorem State.setJoyMode_iff1 (s : State) (m : JoyMode) : (s.setJoyMode m).iff1 = s.iff1 := rfl
@[simp] theorem State.setJoyMode_iff2 (s : State) (m : JoyMode) : (s.setJoyMode m).iff2 = s.iff2 := rfl
@[simp] theorem State.setJoyMode_iff3 (s : State) (m : JoyMode) : (s.setJoyMode m).iff3 = s.iff3 := rfl
@[simp] theorem State.setJoyMode_im (s : State) (m : JoyMode) : (s.setJoyMode m).im = s.im := rfl
@[simp] theorem State.setJoyMode_halted (s : State) (m : JoyMode) : (s.setJoyMode m).halted = s.halted := rfl
@[simp] theorem State.setJoyMode_nmiPending (s : State) (m : JoyMode) : (s.setJoyMode m).nmiPending = s.nmiPending := rfl
@[simp] theorem State.setJoyMode_fault (s : State) (m : JoyMode) : (s.setJoyMode m).fault = s.fault := rfl
@[simp] theorem State.setJoyMode_periodCounter (s : State) (m : JoyMode) : (s.setJoyMode m).periodCounter = s.periodCounter := rfl
@[simp] theorem State.setJoyMode_vdp (s : State) (m : JoyMode) : (s.setJoyMode m).vdp = s.vdp := rfl
@[simp] theorem State.setJoyMode_joyMode (s : State) (m : JoyMode) : (s.setJoyMode m).joyMode = m := rfl
@[simp] theorem State.setJoyMode_events (s : State) (m : JoyMode) : (s.setJoyMode m).events = s.events := rfl
@[simp] theorem State.setJoyMode_mem (s : State) (m : JoyMode) : (s.setJoyMode m).mem = s.mem := rfl
@[simp] theorem State.setJoyMode_host (s : State) (m : JoyMode) : (s.setJoyMode m).host = s.host := rfl
@[simp] theorem State.setJoyMode_hostPlan (s : State) (m : JoyMode) : (s.setJoyMode m).hostPlan = s.hostPlan := rfl
@[simp] theorem State.setJoyMode_cost (s : State) (m : JoyMode) : (s.setJoyMode m).cost = s.cost := rfl

/-! ### emit -/

@[simp] theorem State.emit_bank0 (s : State) (es : List Event) : (s.emit es).bank0 = s.bank0 := rfl
@[simp] theorem State.emit_bank1 (s : State) (es : List Event) : (s.emit es).bank1 = s.bank1 := rfl
@[simp] theorem State.emit_afSel (s : State) (es : List Event) : (s.emit es).afSel = s.afSel := rfl
@[simp] theorem State.emit_mainSel (s : State) (es : List Event) : (s.emit es).mainSel = s.mainSel := rfl
@[simp] theorem State.emit_ix (s : State) (es : List Event) : (s.emit es).ix = s.ix := rfl
@[simp] theorem State.emit_iy (s : State) (es : List Event) : (s.emit es).iy = s.iy := rfl
@[simp] theorem State.emit_sp (s : State) (es : List Event) : (s.emit es).sp = s.sp := rfl
@[simp] theorem State.emit_pc (s : State) (es : List Event) : (s.emit es).pc = s.pc := rfl
@[simp] theorem State.emit_iReg (s : State) (es : List Event) : (s.emit es).iReg = s.iReg := rfl
@[simp] theorem State.emit_rReg (s : State) (es : List Event) : (s.emit es).rReg = s.rReg := rfl
@[simp] theorem State.emit_iff1 (s : State) (es : List Event) : (s.emit es).iff1 = s.iff1 := rfl
@[simp] theorem State.emit_iff2 (s : State) (es : List Event) : (s.emit es).iff2 = s.iff2 := rfl
@[simp] theorem State.emit_iff3 (s : State) (es : List Event) : (s.emit es).iff3 = s.iff3 := rfl
@[simp] theorem State.emit_im (s : State) (es : List Event) : (s.emit es).im = s.im := rfl
@[simp] theorem State.emit_halted (s : State) (es : List Event) : (s.emit es).halted = s.halted := rfl
@[simp] theorem State.emit_nmiPending (s : State) (es : List Event) : (s.emit es).nmiPending = s.nmiPending := rfl
@[simp] theorem State.emit_fault (s : State) (es : List Event) : (s.emit es).fault = s.fault := rfl
@[simp] theorem State.emit_periodCounter (s : State) (es : List Event) : (s.emit es).periodCounter = s.periodCounter := rfl
@[simp] theorem State.emit_vdp (s : State) (es : List Event) : (s.emit es).vdp = s.vdp := rfl
@[simp] theorem State.emit_joyMode (s : State) (es : List Event) : (s.emit es).joyMode = s.joyMode := rfl
@[simp] theorem State.emit_events (s : State) (es : List Event) : (s.emit es).events = s.events ++ es := rfl
@[simp] theorem State.emit_mem (s : State) (es : List Event) : (s.emit es).mem = s.mem := rfl
@[simp] theorem State.emit_host (s : State) (es : List Event) : (s.emit es).host = s.host := rfl
@[simp] theorem State.emit_hostPlan (s : State) (es : List Event) : (s.emit es).hostPlan = s.hostPlan := rfl
@[simp] theorem State.emit_cost (s : State) (es : List Event) : (s.emit es).cost = s.cost := rfl

/-! ### withCost -/

@[simp] theorem State.withCost_bank0 (s : State) (n : Nat) : (s.withCost n).bank0 = s.bank0 := rfl
@[simp] theorem State.withCost_bank1 (s : State) (n : Nat) : (s.withCost n).bank1 = s.bank1 := rfl
@[simp] theorem State.withCost_afSel (s : State) (n : Nat) : (s.withCost n).afSel = s.afSel := rfl
@[simp] theorem State.withCost_mainSel (s : State) (n : Nat) : (s.withCost n).mainSel = s.mainSel := rfl
@[simp] theorem State.withCost_ix (s : State) (n : Nat) : (s.withCost n).ix = s.ix := rfl
@[simp] theorem State.withCost_iy (s : State) (n : Nat) : (s.withCost n).iy = s.iy := rfl
@[simp] theorem State.withCost_sp (s : State) (n : Nat) : (s.withCost n).sp = s.sp := rfl
@[simp] theorem State.withCost_pc (s : State) (n : Nat) : (s.withCost n).pc = s.pc := rfl
@[simp] theorem State.withCost_iReg (s : State) (n : Nat) : (s.withCost n).iReg = s.iReg := rfl
@[simp] theorem State.withCost_rReg (s : State) (n : Nat) : (s.withCost n).rReg = s.rReg := rfl
@[simp] theorem State.withCost_iff1 (s : State) (n : Nat) : (s.withCost n).iff1 = s.iff1 := rfl
@[simp] theorem State.withCost_iff2 (s : State) (n : Nat) : (s.withCost n).iff2 = s.iff2 := rfl
@[simp] theorem State.withCost_iff3 (s : State) (n : Nat) : (s.withCost n).iff3 = s.iff3 := rfl
@[simp] theorem State.withCost_im (s : State) (n : Nat) : (s.withCost n).im = s.im := rfl
@[simp] theorem State.withCost_halted (s : State) (n : Nat) : (s.withCost n).halted = s.halted := rfl
@[simp] theorem State.withCost_nmiPending (s : State) (n : Nat) : (s.withCost n).nmiPending = s.nmiPending := rfl
@[simp] theorem State.withCost_fault (s : State) (n : Nat) : (s.withCost n).fault = s.fault := rfl
@[simp] theorem State.withCost_periodCounter (s : State) (n : Nat) : (s.withCost n).periodCounter = s.periodCounter := rfl
@[simp] theorem State.withCost_vdp (s : State) (n : Nat) : (s.withCost n).vdp = s.vdp := rfl
@[simp] theorem State.withCost_joyMode (s : State) (n : Nat) : (s.withCost n).joyMode = s.joyMode := rfl
@[simp] theorem State.withCost_events (s : State) (n : Nat) : (s.withCost n).events = s.events := rfl
@[simp] theorem State.withCost_mem (s : State) (n : Nat) : (s.withCost n).mem = s.mem := rfl
@[simp] theorem State.withCost_host (s : State) (n : Nat) : (s.withCost n).host = s.host := rfl
@[simp] theorem State.withCost_hostPlan (s : State) (n : Nat) : (s.withCost n).hostPlan = s.hostPlan := rfl
@[simp] theorem State.withCost_cost (s : State) (n : Nat) : (s.withCost n).cost = n := rfl

/-! ### write -/

@[simp] theorem State.write_bank0 (s : State) (a : Word) (v : Byte) : (s.write a v).bank0 = s.bank0 := rfl
@[simp] theorem State.write_bank1 (s : State) (a : Word) (v : Byte) : (s.write a v).bank1 = s.bank1 := rfl
@[simp] theorem State.write_afSel (s : State) (a : Word) (v : Byte) : (s.write a v).afSel = s.afSel := rfl
@[simp] theorem State.write_mainSel (s : State) (a : Word) (v : Byte) : (s.write a v).mainSel = s.mainSel := rfl
@[simp] theorem State.write_ix (s : State) (a : Word) (v : Byte) : (s.write a v).ix = s.ix := rfl
@[simp] theorem State.write_iy (s : State) (a : Word) (v : Byte) : (s.write a v).iy = s.iy := rfl
@[simp] theorem State.write_sp (s : State) (a : Word) (v : Byte) : (s.write a v).sp = s.sp := rfl
@[simp] theorem State.write_pc (s : State) (a : Word) (v : Byte) : (s.write a v).pc = s.pc := rfl
@[simp] theorem State.write_iReg (s : State) (a : Word) (v : Byte) : (s.write a v).iReg = s.iReg := rfl
@[simp] theorem State.write_rReg (s : State) (a : Word) (v : Byte) : (s.write a v).rReg = s.rReg := rfl
@[simp] theorem State.write_iff1 (s : State) (a : Word) (v : Byte) : (s.write a v).iff1 = s.iff1 := rfl
@[simp] theorem State.write_iff2 (s : State) (a : Word) (v : Byte) : (s.write a v).iff2 = s.iff2 := rfl
@[simp] theorem State.write_iff3 (s : State) (a : Word) (v : Byte) : (s.write a v).iff3 = s.iff3 := rfl
@[simp] theorem State.write_im (s : State) (a : Word) (v : Byte) : (s.write a v).im = s.im := rfl
@[simp] theorem State.write_halted (s : State) (a : Word) (v : Byte) : (s.write a v).halted = s.halted := rfl
@[simp] theorem State.write_nmiPending (s : State) (a : Word) (v : Byte) : (s.write a v).nmiPending = s.nmiPending := rfl
@[simp] theorem State.write_fault (s : State) (a : Word) (v : Byte) : (s.write a v).fault = s.fault := rfl
@[simp] theorem State.write_periodCounter (s : State) (a : Word) (v : Byte) : (s.write a v).periodCounter = s.periodCounter := rfl
@[simp] theorem State.write_vdp (s : State) (a : Word) (v : Byte) : (s.write a v).vdp = s.vdp := rfl
@[simp] theorem State.write_joyMode (s : State) (a : Word) (v : Byte) : (s.write a v).joyMode = s.joyMode := rfl
@[simp] theorem State.write_events (s : State) (a : Word) (v : Byte) : (s.write a v).events = s.events := rfl
@[simp] theorem State.write_mem (s : State) (a : Word) (v : Byte) : (s.write a v).mem = Memory.write s.mem a v := rfl
@[simp] theorem State.write_host (s : State) (a : Word) (v : Byte) : (s.write a v).host = s.host := rfl
@[simp] theorem State.write_hostPlan (s : State) (a : Word) (v : Byte) : (s.write a v).hostPlan = s.hostPlan := rfl
@[simp] theorem State.write_cost (s : State) (a : Word) (v : Byte) : (s.write a v).cost = s.cost := rfl

/-! ### refresh -/

@[simp] theorem State.refresh_bank0 (s : State) (k : Nat) : (s.refresh k).bank0 = s.bank0 := rfl
@[simp] theorem State.refresh_bank1 (s : State) (k : Nat) : (s.refresh k).bank1 = s.bank1 := rfl
@[simp] theorem State.refresh_afSel (s : State) (k : Nat) : (s.refresh k).afSel = s.afSel := rfl
@[simp] theorem State.refresh_mainSel (s : State) (k : Nat) : (s.refresh k).mainSel = s.mainSel := rfl
@[simp] theorem State.refresh_ix (s : State) (k : Nat) : (s.refresh k).ix = s.ix := rfl
@[simp] theorem State.refresh_iy (s : State) (k : Nat) : (s.refresh k).iy = s.iy := rfl
@[simp] theorem State.refresh_sp (s : State) (k : Nat) : (s.refresh k).sp = s.sp := rfl
@[simp] theorem State.refresh_pc (s : State) (k : Nat) : (s.refresh k).pc = s.pc := rfl
@[simp] theorem State.refresh_iReg (s : State) (k : Nat) : (s.refresh k).iReg = s.iReg := rfl
@[simp] theorem State.refresh_rReg (s : State) (k : Nat) : (s.refresh k).rReg = refreshed s.rReg k := rfl
@[simp] theorem State.refresh_iff1 (s : State) (k : Nat) : (s.refresh k).iff1 = s.iff1 := rfl
@[simp] theorem State.refresh_iff2 (s : State) (k : Nat) : (s.refresh k).iff2 = s.iff2 := rfl
@[simp] theorem State.refresh_iff3 (s : State) (k : Nat) : (s.refresh k).iff3 = s.iff3 := rfl
@[simp] theorem State.refresh_im (s : State) (k : Nat) : (s.refresh k).im = s.im := rfl
@[simp] theorem State.refresh_halted (s : State) (k : Nat) : (s.refresh k).halted = s.halted := rfl
@[simp] theorem State.refresh_nmiPending (s : State) (k : Nat) : (s.refresh k).nmiPending = s.nmiPending := rfl
@[simp] theorem State.refresh_fault (s : State) (k : Nat) : (s.refresh k).fault = s.fault := rfl
@[simp] theorem State.refresh_periodCounter (s : State) (k : Nat) : (s.refresh k).periodCounter = s.periodCounter := rfl
@[simp] theorem State.refresh_vdp (s : State) (k : Nat) : (s.refresh k).vdp = s.vdp := rfl
@[simp] theorem State.refresh_joyMode (s : State) (k : Nat) : (s.refresh k).joyMode = s.joyMode := rfl
@[simp] theorem State.refresh_events (s : State) (k : Nat) : (s.refresh k).events = s.events := rfl
@[simp] theorem State.refresh_mem (s : State) (k : Nat) : (s.refresh k).mem = s.mem := rfl
@[simp] theorem State.refresh_host (s : State) (k : Nat) : (s.refresh k).host = s.host := rfl
@[simp] theorem State.refresh_hostPlan (s : State) (k : Nat) : (s.refresh k).hostPlan = s.hostPlan := rfl
@[simp] theorem State.refresh_cost (s : State) (k : Nat) : (s.refresh k).cost = s.cost := rfl

/-! ### raiseFault -/

@[simp] theorem State.raiseFault_bank0 (s : State) (record : FaultRecord) : (s.raiseFault record).bank0 = s.bank0 := rfl
@[simp] theorem State.raiseFault_bank1 (s : State) (record : FaultRecord) : (s.raiseFault record).bank1 = s.bank1 := rfl
@[simp] theorem State.raiseFault_afSel (s : State) (record : FaultRecord) : (s.raiseFault record).afSel = s.afSel := rfl
@[simp] theorem State.raiseFault_mainSel (s : State) (record : FaultRecord) : (s.raiseFault record).mainSel = s.mainSel := rfl
@[simp] theorem State.raiseFault_ix (s : State) (record : FaultRecord) : (s.raiseFault record).ix = s.ix := rfl
@[simp] theorem State.raiseFault_iy (s : State) (record : FaultRecord) : (s.raiseFault record).iy = s.iy := rfl
@[simp] theorem State.raiseFault_sp (s : State) (record : FaultRecord) : (s.raiseFault record).sp = s.sp := rfl
@[simp] theorem State.raiseFault_pc (s : State) (record : FaultRecord) : (s.raiseFault record).pc = s.pc := rfl
@[simp] theorem State.raiseFault_iReg (s : State) (record : FaultRecord) : (s.raiseFault record).iReg = s.iReg := rfl
@[simp] theorem State.raiseFault_rReg (s : State) (record : FaultRecord) : (s.raiseFault record).rReg = s.rReg := rfl
@[simp] theorem State.raiseFault_iff1 (s : State) (record : FaultRecord) : (s.raiseFault record).iff1 = s.iff1 := rfl
@[simp] theorem State.raiseFault_iff2 (s : State) (record : FaultRecord) : (s.raiseFault record).iff2 = s.iff2 := rfl
@[simp] theorem State.raiseFault_iff3 (s : State) (record : FaultRecord) : (s.raiseFault record).iff3 = s.iff3 := rfl
@[simp] theorem State.raiseFault_im (s : State) (record : FaultRecord) : (s.raiseFault record).im = s.im := rfl
@[simp] theorem State.raiseFault_halted (s : State) (record : FaultRecord) : (s.raiseFault record).halted = s.halted := rfl
@[simp] theorem State.raiseFault_nmiPending (s : State) (record : FaultRecord) : (s.raiseFault record).nmiPending = s.nmiPending := rfl
@[simp] theorem State.raiseFault_fault (s : State) (record : FaultRecord) : (s.raiseFault record).fault = some record := rfl
@[simp] theorem State.raiseFault_periodCounter (s : State) (record : FaultRecord) : (s.raiseFault record).periodCounter = s.periodCounter := rfl
@[simp] theorem State.raiseFault_vdp (s : State) (record : FaultRecord) : (s.raiseFault record).vdp = s.vdp := rfl
@[simp] theorem State.raiseFault_joyMode (s : State) (record : FaultRecord) : (s.raiseFault record).joyMode = s.joyMode := rfl
@[simp] theorem State.raiseFault_events (s : State) (record : FaultRecord) : (s.raiseFault record).events = s.events := rfl
@[simp] theorem State.raiseFault_mem (s : State) (record : FaultRecord) : (s.raiseFault record).mem = s.mem := rfl
@[simp] theorem State.raiseFault_host (s : State) (record : FaultRecord) : (s.raiseFault record).host = s.host := rfl
@[simp] theorem State.raiseFault_hostPlan (s : State) (record : FaultRecord) : (s.raiseFault record).hostPlan = s.hostPlan := rfl
@[simp] theorem State.raiseFault_cost (s : State) (record : FaultRecord) : (s.raiseFault record).cost = s.cost := rfl

end Sys2Proof.Machine
end

