-- ==== Sys2Proof/Laws/Observe.lean ====
section
/-! SUPPORT. What each update does to the observers the claims are stated in: a physical register, a selector, a byte of
memory, the specials; and the laws of pairs and of the flag byte. -/

namespace Sys2Proof.Machine

/-! ## Bytes and words -/

@[simp] theorem hi_pair (h l : Byte) : Bits.hi (Bits.pair h l) = h := by
  apply BitVec.eq_of_getLsbD_eq
  intro i hi
  have e : (Bits.pair h l).getLsbD (8 + i) = h.getLsbD i := by
    unfold Bits.pair
    rw [BitVec.getLsbD_append]
    simp
  simp [Bits.hi, e, hi]

@[simp] theorem lo_pair (h l : Byte) : Bits.lo (Bits.pair h l) = l := by
  apply BitVec.eq_of_getLsbD_eq
  intro i hi
  have e : (Bits.pair h l).getLsbD i = l.getLsbD i := by
    unfold Bits.pair
    rw [BitVec.getLsbD_append]
    simp [hi]
  simp [Bits.lo, e, hi]

@[simp] theorem pair_hi_lo (w : Word) : Bits.pair (Bits.hi w) (Bits.lo w) = w := by
  apply BitVec.eq_of_getLsbD_eq
  intro i hi
  unfold Bits.pair
  rw [BitVec.getLsbD_append]
  by_cases h : i < 8
  · simp [h, Bits.lo]
  · have h2 : i - 8 < 8 := by omega
    simp [h, h2, Bits.hi, show 8 + (i - 8) = i by omega]
/-- Two words with equal halves are equal. -/
theorem word_ext (v w : Word) (hh : Bits.hi v = Bits.hi w) (hl : Bits.lo v = Bits.lo w) : v = w := by
  rw [← pair_hi_lo v, ← pair_hi_lo w, hh, hl]

/-! Distances between the addresses of a word and of a stack slot; the literals are in simp's normal form. -/

@[simp] theorem word_succ_ne (a : Word) : a + 1#16 ≠ a := by bv_omega

@[simp] theorem word_ne_succ (a : Word) : a ≠ a + 1#16 := by bv_omega

@[simp] theorem word_sub_one_sub_one (a : Word) : a - 1#16 - 1#16 = a - 2#16 := by bv_omega

@[simp] theorem word_sub_two_add_one (a : Word) : a - 2#16 + 1#16 = a - 1#16 := by bv_omega

@[simp] theorem word_add_one_add_one (a : Word) : a + 1#16 + 1#16 = a + 2#16 := by bv_omega

@[simp] theorem word_sub_two_ne (a : Word) : a - 2#16 ≠ a - 1#16 := by bv_omega

@[simp] theorem word_sub_one_ne (a : Word) : a - 1#16 ≠ a - 2#16 := by bv_omega

/-! ## The flag byte -/

/-- The flag byte holds each flag in its bit: the round trip through a byte. -/
@[simp] theorem Flags.ofByte_toByte (fl : Flags) : Flags.ofByte fl.toByte = fl := by
  obtain ⟨s, z, f5, h, f3, pv, n, c⟩ := fl
  revert s z f5 h f3 pv n c
  decide

/-! ## Registers -/

@[simp] theorem Bank.get_set (k : Bank) (q p : RegName) (v : Byte) :
    (k.set q v).get p = if p = q then v else k.get p := by
  cases q <;> cases p <;> rfl

@[simp] theorem Reg8.name_ne_f (r : Reg8) : r.name ≠ .f := by cases r <;> decide

/-- A register write changes one physical cell. -/
@[simp] theorem State.physical_setReg (s : State) (q p : RegName) (v : Byte) (bank : Bool) :
    (s.setReg q v).physical bank p = if bank = s.selector q ∧ p = q then v else s.physical bank p := by
  cases bank <;> cases h : s.selector q <;> simp [State.physical, h]

/-! ### setReg -/

@[simp] theorem State.setReg_selector (s : State) (q : RegName) (v : Byte) (p : RegName) : (s.setReg q v).selector p = s.selector p := by
  cases p <;> rfl

@[simp] theorem State.setReg_reg (s : State) (q : RegName) (v : Byte) (p : RegName) : (s.setReg q v).reg p = if p = q then v else s.reg p := by
  by_cases h : p = q <;> simp [State.reg, h]

@[simp] theorem State.setReg_specials (s : State) (q : RegName) (v : Byte) : (s.setReg q v).specials = s.specials := rfl

@[simp] theorem State.setReg_read (s : State) (q : RegName) (v : Byte) (x : Word) : (s.setReg q v).read x = s.read x := rfl

/-! ### setSp -/

@[simp] theorem State.setSp_selector (s : State) (v : Word) (p : RegName) : (s.setSp v).selector p = s.selector p := by
  cases p <;> rfl

@[simp] theorem State.setSp_physical (s : State) (v : Word) (bank : Bool) (p : RegName) :
    (s.setSp v).physical bank p = s.physical bank p := rfl

@[simp] theorem State.setSp_reg (s : State) (v : Word) (p : RegName) : (s.setSp v).reg p = s.reg p := by
  simp [State.reg]

@[simp] theorem State.setSp_specials (s : State) (v : Word) : (s.setSp v).specials = { s.specials with sp := v } := rfl

@[simp] theorem State.setSp_read (s : State) (v : Word) (x : Word) : (s.setSp v).read x = s.read x := rfl

/-! ### setPc -/

@[simp] theorem State.setPc_selector (s : State) (v : Word) (p : RegName) : (s.setPc v).selector p = s.selector p := by
  cases p <;> rfl

@[simp] theorem State.setPc_physical (s : State) (v : Word) (bank : Bool) (p : RegName) :
    (s.setPc v).physical bank p = s.physical bank p := rfl

@[simp] theorem State.setPc_reg (s : State) (v : Word) (p : RegName) : (s.setPc v).reg p = s.reg p := by
  simp [State.reg]

@[simp] theorem State.setPc_specials (s : State) (v : Word) : (s.setPc v).specials = { s.specials with pc := v } := rfl

@[simp] theorem State.setPc_read (s : State) (v : Word) (x : Word) : (s.setPc v).read x = s.read x := rfl

/-! ### setI -/

@[simp] theorem State.setI_selector (s : State) (v : Byte) (p : RegName) : (s.setI v).selector p = s.selector p := by
  cases p <;> rfl

@[simp] theorem State.setI_physical (s : State) (v : Byte) (bank : Bool) (p : RegName) :
    (s.setI v).physical bank p = s.physical bank p := rfl

@[simp] theorem State.setI_reg (s : State) (v : Byte) (p : RegName) : (s.setI v).reg p = s.reg p := by
  simp [State.reg]

@[simp] theorem State.setI_specials (s : State) (v : Byte) : (s.setI v).specials = { s.specials with iReg := v } := rfl

@[simp] theorem State.setI_read (s : State) (v : Byte) (x : Word) : (s.setI v).read x = s.read x := rfl

/-! ### setR -/

@[simp] theorem State.setR_selector (s : State) (v : Byte) (p : RegName) : (s.setR v).selector p = s.selector p := by
  cases p <;> rfl

@[simp] theorem State.setR_physical (s : State) (v : Byte) (bank : Bool) (p : RegName) :
    (s.setR v).physical bank p = s.physical bank p := rfl

@[simp] theorem State.setR_reg (s : State) (v : Byte) (p : RegName) : (s.setR v).reg p = s.reg p := by
  simp [State.reg]

@[simp] theorem State.setR_specials (s : State) (v : Byte) : (s.setR v).specials = { s.specials with rReg := v } := rfl

@[simp] theorem State.setR_read (s : State) (v : Byte) (x : Word) : (s.setR v).read x = s.read x := rfl

/-! ### setIff1 -/

@[simp] theorem State.setIff1_selector (s : State) (v : Bool) (p : RegName) : (s.setIff1 v).selector p = s.selector p := by
  cases p <;> rfl

@[simp] theorem State.setIff1_physical (s : State) (v : Bool) (bank : Bool) (p : RegName) :
    (s.setIff1 v).physical bank p = s.physical bank p := rfl

@[simp] theorem State.setIff1_reg (s : State) (v : Bool) (p : RegName) : (s.setIff1 v).reg p = s.reg p := by
  simp [State.reg]

@[simp] theorem State.setIff1_specials (s : State) (v : Bool) : (s.setIff1 v).specials = { s.specials with iff1 := v } := rfl

@[simp] theorem State.setIff1_read (s : State) (v : Bool) (x : Word) : (s.setIff1 v).read x = s.read x := rfl

/-! ### setIff2 -/

@[simp] theorem State.setIff2_selector (s : State) (v : Bool) (p : RegName) : (s.setIff2 v).selector p = s.selector p := by
  cases p <;> rfl

@[simp] theorem State.setIff2_physical (s : State) (v : Bool) (bank : Bool) (p : RegName) :
    (s.setIff2 v).physical bank p = s.physical bank p := rfl

@[simp] theorem State.setIff2_reg (s : State) (v : Bool) (p : RegName) : (s.setIff2 v).reg p = s.reg p := by
  simp [State.reg]

@[simp] theorem State.setIff2_specials (s : State) (v : Bool) : (s.setIff2 v).specials = { s.specials with iff2 := v } := rfl

@[simp] theorem State.setIff2_read (s : State) (v : Bool) (x : Word) : (s.setIff2 v).read x = s.read x := rfl

/-! ### setIm -/

@[simp] theorem State.setIm_selector (s : State) (m : IntMode) (p : RegName) : (s.setIm m).selector p = s.selector p := by
  cases p <;> rfl

@[simp] theorem State.setIm_physical (s : State) (m : IntMode) (bank : Bool) (p : RegName) :
    (s.setIm m).physical bank p = s.physical bank p := rfl

@[simp] theorem State.setIm_reg (s : State) (m : IntMode) (p : RegName) : (s.setIm m).reg p = s.reg p := by
  simp [State.reg]

@[simp] theorem State.setIm_specials (s : State) (m : IntMode) : (s.setIm m).specials = { s.specials with im := m } := rfl

@[simp] theorem State.setIm_read (s : State) (m : IntMode) (x : Word) : (s.setIm m).read x = s.read x := rfl

/-! ### setHalted -/

@[simp] theorem State.setHalted_selector (s : State) (v : Bool) (p : RegName) : (s.setHalted v).selector p = s.selector p := by
  cases p <;> rfl

@[simp] theorem State.setHalted_physical (s : State) (v : Bool) (bank : Bool) (p : RegName) :
    (s.setHalted v).physical bank p = s.physical bank p := rfl

@[simp] theorem State.setHalted_reg (s : State) (v : Bool) (p : RegName) : (s.setHalted v).reg p = s.reg p := by
  simp [State.reg]

@[simp] theorem State.setHalted_specials (s : State) (v : Bool) : (s.setHalted v).specials = { s.specials with halted := v } := rfl

@[simp] theorem State.setHalted_read (s : State) (v : Bool) (x : Word) : (s.setHalted v).read x = s.read x := rfl

/-! ### setNmiPending -/

@[simp] theorem State.setNmiPending_selector (s : State) (v : Bool) (p : RegName) : (s.setNmiPending v).selector p = s.selector p := by
  cases p <;> rfl

@[simp] theorem State.setNmiPending_physical (s : State) (v : Bool) (bank : Bool) (p : RegName) :
    (s.setNmiPending v).physical bank p = s.physical bank p := rfl

@[simp] theorem State.setNmiPending_reg (s : State) (v : Bool) (p : RegName) : (s.setNmiPending v).reg p = s.reg p := by
  simp [State.reg]

@[simp] theorem State.setNmiPending_specials (s : State) (v : Bool) : (s.setNmiPending v).specials = { s.specials with nmiPending := v } := rfl

@[simp] theorem State.setNmiPending_read (s : State) (v : Bool) (x : Word) : (s.setNmiPending v).read x = s.read x := rfl

/-! ### toggleAf -/

@[simp] theorem State.toggleAf_physical (s : State) (bank : Bool) (p : RegName) :
    (s.toggleAf).physical bank p = s.physical bank p := rfl

@[simp] theorem State.toggleAf_specials (s : State) : (s.toggleAf).specials = { s.specials with afSel := !s.afSel } := rfl

@[simp] theorem State.toggleAf_read (s : State) (x : Word) : (s.toggleAf).read x = s.read x := rfl

/-! ### toggleMain -/

@[simp] theorem State.toggleMain_physical (s : State) (bank : Bool) (p : RegName) :
    (s.toggleMain).physical bank p = s.physical bank p := rfl

@[simp] theorem State.toggleMain_specials (s : State) : (s.toggleMain).specials = { s.specials with mainSel := !s.mainSel } := rfl

@[simp] theorem State.toggleMain_read (s : State) (x : Word) : (s.toggleMain).read x = s.read x := rfl

/-! ### setVdp -/

@[simp] theorem State.setVdp_selector (s : State) (v : Vdp) (p : RegName) : (s.setVdp v).selector p = s.selector p := by
  cases p <;> rfl

@[simp] theorem State.setVdp_physical (s : State) (v : Vdp) (bank : Bool) (p : RegName) :
    (s.setVdp v).physical bank p = s.physical bank p := rfl

@[simp] theorem State.setVdp_reg (s : State) (v : Vdp) (p : RegName) : (s.setVdp v).reg p = s.reg p := by
  simp [State.reg]

@[simp] theorem State.setVdp_specials (s : State) (v : Vdp) : (s.setVdp v).specials = { s.specials with vdp := v } := rfl

@[simp] theorem State.setVdp_read (s : State) (v : Vdp) (x : Word) : (s.setVdp v).read x = s.read x := rfl

/-! ### setJoyMode -/

@[simp] theorem State.setJoyMode_selector (s : State) (m : JoyMode) (p : RegName) : (s.setJoyMode m).selector p = s.selector p := by
  cases p <;> rfl

@[simp] theorem State.setJoyMode_physical (s : State) (m : JoyMode) (bank : Bool) (p : RegName) :
    (s.setJoyMode m).physical bank p = s.physical bank p := rfl

@[simp] theorem State.setJoyMode_reg (s : State) (m : JoyMode) (p : RegName) : (s.setJoyMode m).reg p = s.reg p := by
  simp [State.reg]

@[simp] theorem State.setJoyMode_specials (s : State) (m : JoyMode) : (s.setJoyMode m).specials = { s.specials with joyMode := m } := rfl

@[simp] theorem State.setJoyMode_read (s : State) (m : JoyMode) (x : Word) : (s.setJoyMode m).read x = s.read x := rfl

/-! ### emit -/

@[simp] theorem State.emit_selector (s : State) (es : List Event) (p : RegName) : (s.emit es).selector p = s.selector p := by
  cases p <;> rfl

@[simp] theorem State.emit_physical (s : State) (es : List Event) (bank : Bool) (p : RegName) :
    (s.emit es).physical bank p = s.physical bank p := rfl

@[simp] theorem State.emit_reg (s : State) (es : List Event) (p : RegName) : (s.emit es).reg p = s.reg p := by
  simp [State.reg]

@[simp] theorem State.emit_specials (s : State) (es : List Event) : (s.emit es).specials = { s.specials with events := s.events ++ es } := rfl

@[simp] theorem State.emit_read (s : State) (es : List Event) (x : Word) : (s.emit es).read x = s.read x := rfl

/-! ### withCost -/

@[simp] theorem State.withCost_selector (s : State) (n : Nat) (p : RegName) : (s.withCost n).selector p = s.selector p := by
  cases p <;> rfl

@[simp] theorem State.withCost_physical (s : State) (n : Nat) (bank : Bool) (p : RegName) :
    (s.withCost n).physical bank p = s.physical bank p := rfl

@[simp] theorem State.withCost_reg (s : State) (n : Nat) (p : RegName) : (s.withCost n).reg p = s.reg p := by
  simp [State.reg]

@[simp] theorem State.withCost_specials (s : State) (n : Nat) : (s.withCost n).specials = s.specials := rfl

@[simp] theorem State.withCost_read (s : State) (n : Nat) (x : Word) : (s.withCost n).read x = s.read x := rfl

/-! ### write -/

@[simp] theorem State.write_selector (s : State) (a : Word) (v : Byte) (p : RegName) : (s.write a v).selector p = s.selector p := by
  cases p <;> rfl

@[simp] theorem State.write_physical (s : State) (a : Word) (v : Byte) (bank : Bool) (p : RegName) :
    (s.write a v).physical bank p = s.physical bank p := rfl

@[simp] theorem State.write_reg (s : State) (a : Word) (v : Byte) (p : RegName) : (s.write a v).reg p = s.reg p := by
  simp [State.reg]

@[simp] theorem State.write_specials (s : State) (a : Word) (v : Byte) : (s.write a v).specials = s.specials := rfl

@[simp] theorem State.write_read (s : State) (a : Word) (v : Byte) (x : Word) :
    (s.write a v).read x = if x = a then v else s.read x := Memory.read_write _ _ _ _

/-! ### refresh -/

@[simp] theorem State.refresh_selector (s : State) (k : Nat) (p : RegName) : (s.refresh k).selector p = s.selector p := by
  cases p <;> rfl

@[simp] theorem State.refresh_physical (s : State) (k : Nat) (bank : Bool) (p : RegName) :
    (s.refresh k).physical bank p = s.physical bank p := rfl

@[simp] theorem State.refresh_reg (s : State) (k : Nat) (p : RegName) : (s.refresh k).reg p = s.reg p := by
  simp [State.reg]

@[simp] theorem State.refresh_specials (s : State) (k : Nat) : (s.refresh k).specials = { s.specials with rReg := refreshed s.rReg k } := rfl

@[simp] theorem State.refresh_read (s : State) (k : Nat) (x : Word) : (s.refresh k).read x = s.read x := rfl

/-! ### raiseFault -/

@[simp] theorem State.raiseFault_selector (s : State) (record : FaultRecord) (p : RegName) : (s.raiseFault record).selector p = s.selector p := by
  cases p <;> rfl

@[simp] theorem State.raiseFault_physical (s : State) (record : FaultRecord) (bank : Bool) (p : RegName) :
    (s.raiseFault record).physical bank p = s.physical bank p := rfl

@[simp] theorem State.raiseFault_reg (s : State) (record : FaultRecord) (p : RegName) : (s.raiseFault record).reg p = s.reg p := by
  simp [State.reg]

@[simp] theorem State.raiseFault_specials (s : State) (record : FaultRecord) : (s.raiseFault record).specials = { s.specials with fault := some record } := rfl

@[simp] theorem State.raiseFault_read (s : State) (record : FaultRecord) (x : Word) : (s.raiseFault record).read x = s.read x := rfl

/-! ### setIndex -/

@[simp] theorem State.setIndex_selector (s : State) (xy : Index) (v : Word) (p : RegName) :
    (s.setIndex xy v).selector p = s.selector p := by
  cases p <;> rfl

@[simp] theorem State.setIndex_physical (s : State) (xy : Index) (v : Word) (bank : Bool) (p : RegName) :
    (s.setIndex xy v).physical bank p = s.physical bank p := rfl

@[simp] theorem State.setIndex_reg (s : State) (xy : Index) (v : Word) (p : RegName) :
    (s.setIndex xy v).reg p = s.reg p := by
  simp [State.reg]

@[simp] theorem State.setIndex_specials (s : State) (xy : Index) (v : Word) :
    (s.setIndex xy v).specials = s.specials.withIndex xy v := by
  cases xy <;> rfl

@[simp] theorem State.setIndex_read (s : State) (xy : Index) (v : Word) (x : Word) :
    (s.setIndex xy v).read x = s.read x := rfl

@[simp] theorem State.setIndex_index (s : State) (xy yx : Index) (v : Word) :
    (s.setIndex xy v).index yx = if yx = xy then v else s.index yx := by
  cases xy <;> cases yx <;> rfl

/-! ### The flags and the pairs -/

@[simp] theorem State.setFlags_flags (s : State) (fl : Flags) : (s.setFlags fl).flags = fl := by
  simp [State.flags, State.setFlags]

@[simp] theorem State.setBc_bc (s : State) (v : Word) : (s.setBc v).bc = v := by
  simp [State.bc, State.setBc]

@[simp] theorem State.setDe_de (s : State) (v : Word) : (s.setDe v).de = v := by
  simp [State.de, State.setDe]

@[simp] theorem State.setHl_hl (s : State) (v : Word) : (s.setHl v).hl = v := by
  simp [State.hl, State.setHl]

@[simp] theorem State.setAf_af (s : State) (v : Word) : (s.setAf v).af = v := by
  simp [State.af, State.setAf]

/-! ### The stack -/

/-- `push16`: two bytes below `SP`, `SP` two lower, nothing else. -/
theorem State.push16_spec (s : State) (v : Word) :
    s.push16 v = ((s.write (s.sp - 1) (Bits.hi v)).write (s.sp - 2) (Bits.lo v)).setSp (s.sp - 2) := by
  simp [State.push16, State.setSp, State.write]

/-- A value pushed reads back as the word at the new `SP`. -/
theorem State.popped_push16 (s : State) (v : Word) : (s.push16 v).popped = v := by
  simp [State.push16_spec, State.popped, State.read16]

end Sys2Proof.Machine
end

