-- ==== Sys2Proof/Laws/Effect.lean ====
section
/-! SUPPORT. How to show that an effect holds: the banks after are those of the register writes in order, memory after is
that of the stores in order, and no register or address is written twice. -/

namespace Sys2Proof.Machine

/-- The register writes of an effect, in order. -/
def State.setRegs (s : State) : List (RegName × Byte) → State
  | [] => s
  | (q, v) :: rest => (s.setReg q v).setRegs rest

/-- The stores of an effect, in order. -/
def State.setBytes (s : State) : List (Word × Byte) → State
  | [] => s
  | (a, v) :: rest => (s.write a v).setBytes rest

theorem State.setRegs_selector (regs : List (RegName × Byte)) (s : State) (q : RegName) :
    (s.setRegs regs).selector q = s.selector q := by
  induction regs generalizing s with
  | nil => rfl
  | cons w rest ih => simp [State.setRegs, ih]

/-- A register not among the writes is as before. -/
theorem State.setRegs_other (regs : List (RegName × Byte)) (s : State) (bank : Bool) (q : RegName)
    (h : bank = s.selector q → q ∉ regs.map Prod.fst) : (s.setRegs regs).physical bank q = s.physical bank q := by
  induction regs generalizing s with
  | nil => rfl
  | cons w rest ih =>
    obtain ⟨p, v⟩ := w
    simp only [State.setRegs]
    rw [ih]
    · simp only [State.physical_setReg]
      split
      · next hq =>
        obtain ⟨hb, rfl⟩ := hq
        exact absurd (by simp) (h hb)
      · rfl
    · intro hb hm
      simp only [State.setReg_selector] at hb
      exact h hb (by simp [hm])

/-- A register written once reads as written. -/
theorem State.setRegs_mem (regs : List (RegName × Byte)) (s : State) (w : RegName × Byte) (hw : w ∈ regs)
    (hd : (regs.map Prod.fst).Nodup) : (s.setRegs regs).physical (s.selector w.1) w.1 = w.2 := by
  induction regs generalizing s with
  | nil => simp at hw
  | cons x rest ih =>
    obtain ⟨p, v⟩ := x
    simp only [List.map_cons, List.nodup_cons] at hd
    simp only [State.setRegs]
    rcases List.mem_cons.mp hw with rfl | hr
    · rw [State.setRegs_other]
      · simp
      · exact fun _ => hd.1
    · have := ih (s.setReg p v) hr hd.2
      simpa using this

theorem State.setBytes_other (stores : List (Word × Byte)) (s : State) (a : Word) (h : a ∉ stores.map Prod.fst) :
    (s.setBytes stores).read a = s.read a := by
  induction stores generalizing s with
  | nil => rfl
  | cons w rest ih =>
    obtain ⟨b, v⟩ := w
    simp only [List.map_cons, List.mem_cons, not_or] at h
    simp [State.setBytes, ih _ h.2, h.1]

theorem State.setBytes_mem (stores : List (Word × Byte)) (s : State) (w : Word × Byte) (hw : w ∈ stores)
    (hd : (stores.map Prod.fst).Nodup) : (s.setBytes stores).read w.1 = w.2 := by
  induction stores generalizing s with
  | nil => simp at hw
  | cons x rest ih =>
    obtain ⟨b, v⟩ := x
    simp only [List.map_cons, List.nodup_cons] at hd
    simp only [State.setBytes]
    rcases List.mem_cons.mp hw with rfl | hr
    · rw [State.setBytes_other _ _ _ hd.1]
      simp
    · exact ih _ hr hd.2

/-- An effect holds where the banks and memory are those of its writes in order, the specials and the cost are as it says,
and it writes nothing twice. -/
theorem Effect.holds_of_writes {e : Effect} {s t : State} (h0 : t.bank0 = (s.setRegs e.regs).bank0)
    (h1 : t.bank1 = (s.setRegs e.regs).bank1) (hm : t.mem = (s.setBytes e.stores).mem) (hs : t.specials = e.specials)
    (hc : t.cost = e.cost) (hr : (e.regs.map Prod.fst).Nodup) (ha : (e.stores.map Prod.fst).Nodup) : e.Holds s t := by
  have hp : ∀ bank q, t.physical bank q = (s.setRegs e.regs).physical bank q := fun bank q => by
    simp [State.physical, h0, h1]
  have hread : ∀ a, t.read a = (s.setBytes e.stores).read a := fun a => by simp [State.read, hm]
  refine ⟨hc, hs, fun w hw => ?_, fun bank q h => ?_, fun w hw => ?_, fun a h => ?_⟩
  · rw [hp]
    exact State.setRegs_mem _ _ _ hw hr
  · rw [hp]
    exact State.setRegs_other _ _ _ _ h
  · rw [hread]
    exact State.setBytes_mem _ _ _ hw ha
  · rw [hread]
    exact State.setBytes_other _ _ _ h

/-! ## Building an effect, one update at a time -/

/-- Nothing happened. -/
theorem Effect.Holds.refl (s : State) : Effect.Holds ⟨[], [], s.specials, s.cost⟩ s s :=
  ⟨rfl, rfl, by simp, fun _ _ _ => rfl, by simp, fun _ _ => rfl⟩

/-- One more register write, where the selectors are still those of `s`. -/
theorem Effect.Holds.setReg {regs stores x c} {s t : State} (h : Effect.Holds ⟨regs, stores, x, c⟩ s t) (q : RegName)
    (v : Byte) (hsel : t.selector q = s.selector q) (hq : q ∉ regs.map Prod.fst) :
    Effect.Holds ⟨regs ++ [(q, v)], stores, x, c⟩ s (t.setReg q v) := by
  obtain ⟨hc, hs, hr, ho, hw, hm⟩ := h
  refine ⟨hc, hs, fun w hw => ?_, fun bank p hp => ?_, hw, hm⟩
  · rcases List.mem_append.mp hw with hw | hw
    · have hne : w.1 ≠ q := fun he => hq (he ▸ List.mem_map_of_mem hw)
      simp [hne, hr w hw]
    · obtain rfl := List.mem_singleton.mp hw
      simp [hsel]
  · have hpq : ¬(bank = t.selector q ∧ p = q) := by
      rintro ⟨rfl, rfl⟩
      exact hp hsel (by simp)
    rw [State.physical_setReg, if_neg hpq]
    exact ho bank p fun hb hmem => hp hb (by simp only [List.map_append, List.mem_append]; exact .inl hmem)

/-- One more byte stored, at an address not yet stored to. -/
theorem Effect.Holds.write {regs stores x c} {s t : State} (h : Effect.Holds ⟨regs, stores, x, c⟩ s t) (a : Word)
    (v : Byte) (ha : a ∉ stores.map Prod.fst) : Effect.Holds ⟨regs, stores ++ [(a, v)], x, c⟩ s (t.write a v) := by
  obtain ⟨hc, hs, hr, ho, hw, hm⟩ := h
  refine ⟨hc, hs, hr, ho, fun w hw' => ?_, fun b hb => ?_⟩
  · rcases List.mem_append.mp hw' with hw' | hw'
    · have hne : w.1 ≠ a := fun he => ha (he ▸ List.mem_map_of_mem hw')
      simp [hne, hw w hw']
    · obtain rfl := List.mem_singleton.mp hw'
      simp
  · simp only [List.map_append, List.map_cons, List.map_nil, List.mem_append, List.mem_singleton, not_or] at hb
    rw [State.write_read, if_neg hb.2]
    exact hm b hb.1

/-- Another state with the same banks and memory: only the specials and the cost are new. -/
theorem Effect.Holds.congr {regs stores x c} {s t u : State} (h : Effect.Holds ⟨regs, stores, x, c⟩ s t)
    (h0 : u.bank0 = t.bank0) (h1 : u.bank1 = t.bank1) (hm : u.mem = t.mem) :
    Effect.Holds ⟨regs, stores, u.specials, u.cost⟩ s u := by
  obtain ⟨-, -, hr, ho, hw, hm'⟩ := h
  have hp : ∀ bank q, u.physical bank q = t.physical bank q := fun bank q => by simp [State.physical, h0, h1]
  have hread : ∀ a, u.read a = t.read a := fun a => by simp [State.read, hm]
  exact ⟨rfl, rfl, fun w hw => by rw [hp, hr w hw], fun bank q hq => by rw [hp, ho bank q hq],
    fun w h => by rw [hread, hw w h], fun a ha => by rw [hread, hm' a ha]⟩

theorem Effect.Holds.withCost {regs stores x c} {s t : State} (h : Effect.Holds ⟨regs, stores, x, c⟩ s t) (n : Nat) :
    Effect.Holds ⟨regs, stores, x, n⟩ s (t.withCost n) := by
  have := h.congr (u := t.withCost n) rfl rfl rfl
  rwa [State.withCost_specials, h.2.1] at this

/-! ## Updates of the specials -/

theorem Effect.Holds.setSp {regs stores x c} {s t : State} (h : Effect.Holds ⟨regs, stores, x, c⟩ s t) (v : Word) :
    Effect.Holds ⟨regs, stores, { x with sp := v }, c⟩ s (t.setSp v) := by
  obtain rfl := h.2.1
  obtain rfl := h.1
  exact h.congr rfl rfl rfl

theorem Effect.Holds.setPc {regs stores x c} {s t : State} (h : Effect.Holds ⟨regs, stores, x, c⟩ s t) (v : Word) :
    Effect.Holds ⟨regs, stores, { x with pc := v }, c⟩ s (t.setPc v) := by
  obtain rfl := h.2.1
  obtain rfl := h.1
  exact h.congr rfl rfl rfl

theorem Effect.Holds.setI {regs stores x c} {s t : State} (h : Effect.Holds ⟨regs, stores, x, c⟩ s t) (v : Byte) :
    Effect.Holds ⟨regs, stores, { x with iReg := v }, c⟩ s (t.setI v) := by
  obtain rfl := h.2.1
  obtain rfl := h.1
  exact h.congr rfl rfl rfl

theorem Effect.Holds.setR {regs stores x c} {s t : State} (h : Effect.Holds ⟨regs, stores, x, c⟩ s t) (v : Byte) :
    Effect.Holds ⟨regs, stores, { x with rReg := v }, c⟩ s (t.setR v) := by
  obtain rfl := h.2.1
  obtain rfl := h.1
  exact h.congr rfl rfl rfl

theorem Effect.Holds.setIff1 {regs stores x c} {s t : State} (h : Effect.Holds ⟨regs, stores, x, c⟩ s t) (v : Bool) :
    Effect.Holds ⟨regs, stores, { x with iff1 := v }, c⟩ s (t.setIff1 v) := by
  obtain rfl := h.2.1
  obtain rfl := h.1
  exact h.congr rfl rfl rfl

theorem Effect.Holds.setIff2 {regs stores x c} {s t : State} (h : Effect.Holds ⟨regs, stores, x, c⟩ s t) (v : Bool) :
    Effect.Holds ⟨regs, stores, { x with iff2 := v }, c⟩ s (t.setIff2 v) := by
  obtain rfl := h.2.1
  obtain rfl := h.1
  exact h.congr rfl rfl rfl

theorem Effect.Holds.setIm {regs stores x c} {s t : State} (h : Effect.Holds ⟨regs, stores, x, c⟩ s t) (m : IntMode) :
    Effect.Holds ⟨regs, stores, { x with im := m }, c⟩ s (t.setIm m) := by
  obtain rfl := h.2.1
  obtain rfl := h.1
  exact h.congr rfl rfl rfl

theorem Effect.Holds.setHalted {regs stores x c} {s t : State} (h : Effect.Holds ⟨regs, stores, x, c⟩ s t) (v : Bool) :
    Effect.Holds ⟨regs, stores, { x with halted := v }, c⟩ s (t.setHalted v) := by
  obtain rfl := h.2.1
  obtain rfl := h.1
  exact h.congr rfl rfl rfl

theorem Effect.Holds.setNmiPending {regs stores x c} {s t : State} (h : Effect.Holds ⟨regs, stores, x, c⟩ s t) (v : Bool) :
    Effect.Holds ⟨regs, stores, { x with nmiPending := v }, c⟩ s (t.setNmiPending v) := by
  obtain rfl := h.2.1
  obtain rfl := h.1
  exact h.congr rfl rfl rfl

theorem Effect.Holds.setVdp {regs stores x c} {s t : State} (h : Effect.Holds ⟨regs, stores, x, c⟩ s t) (v : Vdp) :
    Effect.Holds ⟨regs, stores, { x with vdp := v }, c⟩ s (t.setVdp v) := by
  obtain rfl := h.2.1
  obtain rfl := h.1
  exact h.congr rfl rfl rfl

theorem Effect.Holds.setJoyMode {regs stores x c} {s t : State} (h : Effect.Holds ⟨regs, stores, x, c⟩ s t) (m : JoyMode) :
    Effect.Holds ⟨regs, stores, { x with joyMode := m }, c⟩ s (t.setJoyMode m) := by
  obtain rfl := h.2.1
  obtain rfl := h.1
  exact h.congr rfl rfl rfl

theorem Effect.Holds.emit {regs stores x c} {s t : State} (h : Effect.Holds ⟨regs, stores, x, c⟩ s t) (es : List Event) :
    Effect.Holds ⟨regs, stores, { x with events := x.events ++ es }, c⟩ s (t.emit es) := by
  obtain rfl := h.2.1
  obtain rfl := h.1
  exact h.congr rfl rfl rfl

theorem Effect.Holds.toggleAf {regs stores x c} {s t : State} (h : Effect.Holds ⟨regs, stores, x, c⟩ s t) :
    Effect.Holds ⟨regs, stores, { x with afSel := !x.afSel }, c⟩ s t.toggleAf := by
  obtain rfl := h.2.1
  obtain rfl := h.1
  exact h.congr rfl rfl rfl

theorem Effect.Holds.toggleMain {regs stores x c} {s t : State} (h : Effect.Holds ⟨regs, stores, x, c⟩ s t) :
    Effect.Holds ⟨regs, stores, { x with mainSel := !x.mainSel }, c⟩ s t.toggleMain := by
  obtain rfl := h.2.1
  obtain rfl := h.1
  exact h.congr rfl rfl rfl

theorem Effect.Holds.refresh {regs stores x c} {s t : State} (h : Effect.Holds ⟨regs, stores, x, c⟩ s t) (k : Nat) :
    Effect.Holds ⟨regs, stores, { x with rReg := refreshed x.rReg k }, c⟩ s (t.refresh k) := by
  obtain rfl := h.2.1
  obtain rfl := h.1
  exact h.congr rfl rfl rfl

theorem Effect.Holds.setIndex {regs stores x c} {s t : State} (h : Effect.Holds ⟨regs, stores, x, c⟩ s t) (xy : Index)
    (v : Word) : Effect.Holds ⟨regs, stores, x.withIndex xy v, c⟩ s (t.setIndex xy v) := by
  obtain rfl := h.2.1
  obtain rfl := h.1
  cases xy <;> exact h.congr rfl rfl rfl

/-! ## The pairs, the flags, words in memory and the stack -/

theorem Effect.Holds.setFlags {regs stores x c} {s t : State} (h : Effect.Holds ⟨regs, stores, x, c⟩ s t) (fl : Flags)
    (hsel : t.selector .f = s.selector .f) (hq : RegName.f ∉ regs.map Prod.fst) :
    Effect.Holds ⟨regs ++ [(.f, fl.toByte)], stores, x, c⟩ s (t.setFlags fl) := h.setReg .f fl.toByte hsel hq

/-- What writing a pair does. -/
theorem State.setRp_spec (s : State) (rr : Rp) (v : Word) :
    Effect.Holds ⟨rr.regs v, [], rr.specials v s.specials, s.cost⟩ s (s.setRp rr v) := by
  have h := Effect.Holds.refl s
  cases rr with
  | bc => exact (h.setReg .b (Bits.hi v) rfl (by simp)).setReg .c (Bits.lo v) rfl (by simp)
  | de => exact (h.setReg .d (Bits.hi v) rfl (by simp)).setReg .e (Bits.lo v) rfl (by simp)
  | hl => exact (h.setReg .h (Bits.hi v) rfl (by simp)).setReg .l (Bits.lo v) rfl (by simp)
  | sp => exact h.setSp v

/-- What writing a pair does after a change of the specials alone. -/
theorem Effect.Holds.setQq {x c} {s t : State} (h : Effect.Holds ⟨[], [], x, c⟩ s t) (qq : Qq) (v : Word)
    (hsel : ∀ q, t.selector q = s.selector q) : Effect.Holds ⟨qq.regs v, [], x, c⟩ s (t.setQq qq v) := by
  cases qq with
  | bc => exact (h.setReg .b (Bits.hi v) (hsel _) (by simp)).setReg .c (Bits.lo v) (by simp [hsel]) (by simp)
  | de => exact (h.setReg .d (Bits.hi v) (hsel _) (by simp)).setReg .e (Bits.lo v) (by simp [hsel]) (by simp)
  | hl => exact (h.setReg .h (Bits.hi v) (hsel _) (by simp)).setReg .l (Bits.lo v) (by simp [hsel]) (by simp)
  | af => exact (h.setReg .a (Bits.hi v) (hsel _) (by simp)).setReg .f (Bits.lo v) (by simp [hsel]) (by simp)

/-- What a 16-bit store does. -/
theorem State.write16_spec (s : State) (a v : Word) :
    Effect.Holds ⟨[], wordAt a v, s.specials, s.cost⟩ s (s.write16 a v) :=
  ((Effect.Holds.refl s).write a (Bits.lo v) (by simp)).write (a + 1) (Bits.hi v) (by simp)

/-- What a push does. -/
theorem State.push16_holds (s : State) (v : Word) :
    Effect.Holds ⟨[], pushedAt s.sp v, { s.specials with sp := s.sp - 2 }, s.cost⟩ s (s.push16 v) := by
  rw [State.push16_spec]
  exact (((Effect.Holds.refl s).write (s.sp - 1) (Bits.hi v) (by simp)).write (s.sp - 2) (Bits.lo v) (by simp)).setSp _

/-- What an operand's write does. -/
theorem State.writeLoc_spec (s : State) (m : Loc) (v : Byte) :
    Effect.Holds ⟨s.locRegs m v, s.locStores m v, s.specials, s.cost⟩ s (s.writeLoc m v) := by
  have h := Effect.Holds.refl s
  cases m with
  | reg r => exact h.setReg r.name v rfl (by simp)
  | atHl => exact h.write s.hl v (by simp)
  | indexed xy d => exact h.write (s.indexAddr xy d) v (by simp)

@[simp] theorem State.locRegs_no_f (s : State) (m : Loc) (v : Byte) : RegName.f ∉ (s.locRegs m v).map Prod.fst := by
  cases m <;> simp [State.locRegs, (Reg8.name_ne_f _).symm]

@[simp] theorem State.writeLoc_selector (s : State) (m : Loc) (v : Byte) (q : RegName) :
    (s.writeLoc m v).selector q = s.selector q := by
  cases m <;> simp [State.writeLoc]

/-- What both interrupt entries do (60_exceptions.md R910, R911). -/
theorem State.enterInterrupt_spec (s : State) (vector : Word) (cost : Nat) :
    Effect.Holds ⟨[], pushedAt s.sp s.pc, { s.specials with
      halted := false, iff1 := false, rReg := refreshed s.rReg 1, sp := s.sp - 2, pc := vector }, cost⟩
      s (s.enterInterrupt vector cost) := by
  have h := (((((((Effect.Holds.refl s).setHalted false).setIff1 false).refresh 1).write (s.sp - 1) (Bits.hi s.pc)
    (by simp)).write (s.sp - 2) (Bits.lo s.pc) (by simp)).setSp (s.sp - 2)).setPc vector |>.withCost cost
  simp only [State.enterInterrupt, State.push16_spec]
  exact h

end Sys2Proof.Machine
end

