-- ==== Sys2Proof/Laws/Meanings.lean ====
section
/-! SUPPORT. One lemma per shared operation of the meanings: it answers a next state, and its whole effect. -/

namespace Sys2Proof.Machine

/-! ## Loads -/

theorem loadReg_spec (r : Reg8) (v : Byte) (c : Nat) (s : State) :
    ∃ t, loadReg r v c s = .next t ∧ Effect.Holds ⟨[(r.name, v)], [], s.specials, c⟩ s t :=
  ⟨_, rfl, ((Effect.Holds.refl s).setReg r.name v rfl (by simp)).withCost c⟩

theorem storeByte_spec (a : Word) (v : Byte) (c : Nat) (s : State) :
    ∃ t, storeByte a v c s = .next t ∧ Effect.Holds ⟨[], [(a, v)], s.specials, c⟩ s t :=
  ⟨_, rfl, ((Effect.Holds.refl s).write a v (by simp)).withCost c⟩

theorem loadSpecial_spec (v : Byte) (c : Nat) (s : State) :
    ∃ t, loadSpecial v c s = .next t ∧
      Effect.Holds ⟨[(.a, v), (.f, (loadSpecialFlags v s.iff2 s.flags).toByte)], [], s.specials, c⟩ s t :=
  ⟨_, rfl, (((Effect.Holds.refl s).setReg .a v rfl (by simp)).setFlags _ rfl (by simp)).withCost c⟩

theorem loadRp_spec (rr : Rp) (v : Word) (c : Nat) (s : State) :
    ∃ t, loadRp rr v c s = .next t ∧ Effect.Holds ⟨rr.regs v, [], rr.specials v s.specials, c⟩ s t :=
  ⟨_, rfl, (s.setRp_spec rr v).withCost c⟩

theorem loadIndex_spec (xy : Index) (v : Word) (c : Nat) (s : State) :
    ∃ t, loadIndex xy v c s = .next t ∧ Effect.Holds ⟨[], [], s.specials.withIndex xy v, c⟩ s t :=
  ⟨_, rfl, ((Effect.Holds.refl s).setIndex xy v).withCost c⟩

theorem storeWord_spec (a v : Word) (c : Nat) (s : State) :
    ∃ t, storeWord a v c s = .next t ∧ Effect.Holds ⟨[], wordAt a v, s.specials, c⟩ s t :=
  ⟨_, rfl, (s.write16_spec a v).withCost c⟩

theorem loadSp_spec (v : Word) (c : Nat) (s : State) :
    ∃ t, loadSp v c s = .next t ∧ Effect.Holds ⟨[], [], { s.specials with sp := v }, c⟩ s t :=
  ⟨_, rfl, ((Effect.Holds.refl s).setSp v).withCost c⟩

theorem pushWord_spec (v : Word) (c : Nat) (s : State) :
    ∃ t, pushWord v c s = .next t ∧
      Effect.Holds ⟨[], pushedAt s.sp v, { s.specials with sp := s.sp - 2 }, c⟩ s t :=
  ⟨_, rfl, (s.push16_holds v).withCost c⟩

/-! ## Block transfer and search -/

theorem State.blockMove_spec (s : State) (up : Bool) :
    Effect.Holds ⟨Rp.hl.regs (stepBy up s.hl) ++ Rp.de.regs (stepBy up s.de) ++ Rp.bc.regs (s.bc - 1) ++
      [(.f, (blockMoveFlags (s.reg .a) (s.read s.hl) (s.bc - 1) s.flags).toByte)],
      [(s.de, s.read s.hl)], s.specials, s.cost⟩ s (s.blockMove up) :=
  ((((((((Effect.Holds.refl s).write s.de (s.read s.hl) (by simp)).setReg .h (Bits.hi (stepBy up s.hl)) rfl (by simp)).setReg
    .l (Bits.lo (stepBy up s.hl)) rfl (by simp)).setReg .d (Bits.hi (stepBy up s.de)) rfl (by simp)).setReg
    .e (Bits.lo (stepBy up s.de)) rfl (by simp)).setReg .b (Bits.hi (s.bc - 1)) rfl (by simp)).setReg
    .c (Bits.lo (s.bc - 1)) rfl (by simp)).setFlags _ rfl (by simp)

theorem State.blockSearch_spec (s : State) (up : Bool) :
    Effect.Holds ⟨Rp.hl.regs (stepBy up s.hl) ++ Rp.bc.regs (s.bc - 1) ++
      [(.f, (blockCompareFlags (s.reg .a) (s.read s.hl) (s.bc - 1) s.flags).toByte)], [], s.specials, s.cost⟩
      s (s.blockSearch up) :=
  (((((Effect.Holds.refl s).setReg .h (Bits.hi (stepBy up s.hl)) rfl (by simp)).setReg
    .l (Bits.lo (stepBy up s.hl)) rfl (by simp)).setReg .b (Bits.hi (s.bc - 1)) rfl (by simp)).setReg
    .c (Bits.lo (s.bc - 1)) rfl (by simp)).setFlags _ rfl (by simp)

/-- BC after an iteration. -/
@[simp] theorem State.blockMove_bc (s : State) (up : Bool) : (s.blockMove up).bc = s.bc - 1 := by
  simp [State.blockMove, State.setFlags, State.setBc, State.bc]

@[simp] theorem State.blockSearch_bc (s : State) (up : Bool) : (s.blockSearch up).bc = s.bc - 1 := by
  simp [State.blockSearch, State.setFlags, State.setBc, State.bc]

/-- The end of a repeating block instruction: `pc` back by two while it repeats, and its cost (R506). -/
theorem Effect.Holds.repeatWhile {regs stores x c} {s t : State} (h : Effect.Holds ⟨regs, stores, x, c⟩ s t) (i : Instr)
    (again : Bool) :
    Effect.Holds ⟨regs, stores, if again then { x with pc := t.pc - 2 } else x, Params.cost i again⟩ s
      (t.repeatWhile i again) := by
  cases again
  · exact h.withCost _
  · exact (h.setPc _).withCost _

/-! ## 8-bit arithmetic and logic -/

theorem aluAdd_spec (src : Src) (c : Bool) (cost : Nat) (s : State) :
    ∃ t, aluAdd src c cost s = .next t ∧
      Effect.Holds ⟨[(.a, (add8 (s.reg .a) (s.readSrc src) c).1), (.f, (add8 (s.reg .a) (s.readSrc src) c).2.toByte)], [],
        s.specials, cost⟩ s t :=
  ⟨_, rfl, (((Effect.Holds.refl s).setReg .a _ rfl (by simp)).setFlags _ rfl (by simp)).withCost _⟩

theorem aluSub_spec (src : Src) (c : Bool) (cost : Nat) (s : State) :
    ∃ t, aluSub src c cost s = .next t ∧
      Effect.Holds ⟨[(.a, (sub8 (s.reg .a) (s.readSrc src) c).1), (.f, (sub8 (s.reg .a) (s.readSrc src) c).2.toByte)], [],
        s.specials, cost⟩ s t :=
  ⟨_, rfl, (((Effect.Holds.refl s).setReg .a _ rfl (by simp)).setFlags _ rfl (by simp)).withCost _⟩

theorem aluLogic_spec (res : Byte) (h : Bool) (cost : Nat) (s : State) :
    ∃ t, aluLogic res h cost s = .next t ∧
      Effect.Holds ⟨[(.a, res), (.f, (logicFlags res h).toByte)], [], s.specials, cost⟩ s t :=
  ⟨_, rfl, (((Effect.Holds.refl s).setReg .a _ rfl (by simp)).setFlags _ rfl (by simp)).withCost _⟩

theorem aluCompare_spec (src : Src) (cost : Nat) (s : State) :
    ∃ t, aluCompare src cost s = .next t ∧
      Effect.Holds ⟨[(.f, (sub8 (s.reg .a) (s.readSrc src) false).2.toByte)], [], s.specials, cost⟩ s t :=
  ⟨_, rfl, ((Effect.Holds.refl s).setFlags _ rfl (by simp)).withCost _⟩

theorem incLoc_spec (m : Loc) (cost : Nat) (s : State) :
    ∃ t, incLoc m cost s = .next t ∧
      Effect.Holds ⟨s.locRegs m (inc8 (s.readLoc m) s.flags).1 ++ [(.f, (inc8 (s.readLoc m) s.flags).2.toByte)],
        s.locStores m (inc8 (s.readLoc m) s.flags).1, s.specials, cost⟩ s t :=
  ⟨_, rfl, ((s.writeLoc_spec m _).setFlags _ (by simp) (by simp)).withCost _⟩

theorem decLoc_spec (m : Loc) (cost : Nat) (s : State) :
    ∃ t, decLoc m cost s = .next t ∧
      Effect.Holds ⟨s.locRegs m (dec8 (s.readLoc m) s.flags).1 ++ [(.f, (dec8 (s.readLoc m) s.flags).2.toByte)],
        s.locStores m (dec8 (s.readLoc m) s.flags).1, s.specials, cost⟩ s t :=
  ⟨_, rfl, ((s.writeLoc_spec m _).setFlags _ (by simp) (by simp)).withCost _⟩

/-! ## 16-bit arithmetic -/

/-- Writing HL and F: what `ADD HL`, `ADC HL` and `SBC HL` do with their result. -/
theorem State.setHlFlags_spec (s : State) (v : Word) (fl : Flags) (c : Nat) :
    Effect.Holds ⟨Rp.hl.regs v ++ [(.f, fl.toByte)], [], s.specials, c⟩ s (((s.setHl v).setFlags fl).withCost c) :=
  ((((Effect.Holds.refl s).setReg .h (Bits.hi v) rfl (by simp)).setReg .l (Bits.lo v) rfl (by simp)).setFlags fl rfl
    (by simp)).withCost c

theorem addIndex_spec (xy : Index) (b : Word) (cost : Nat) (s : State) :
    ∃ t, addIndex xy b cost s = .next t ∧
      Effect.Holds ⟨[(.f, (add16 (s.index xy) b s.flags).2.toByte)], [],
        s.specials.withIndex xy (add16 (s.index xy) b s.flags).1, cost⟩ s t :=
  ⟨_, rfl, (((Effect.Holds.refl s).setIndex xy _).setFlags _ rfl (by simp)).withCost _⟩

/-! ## Rotates, shifts and bits -/

theorem rotateAcc_spec (op : RotOp) (cost : Nat) (s : State) :
    ∃ t, rotateAcc op cost s = .next t ∧
      Effect.Holds ⟨[(.a, (shuffle op (s.reg .a) s.flags.c).1),
        (.f, (accRotateFlags (shuffle op (s.reg .a) s.flags.c).1 (shuffle op (s.reg .a) s.flags.c).2 s.flags).toByte)], [],
        s.specials, cost⟩ s t :=
  ⟨_, rfl, (((Effect.Holds.refl s).setReg .a _ rfl (by simp)).setFlags _ rfl (by simp)).withCost _⟩

theorem rotateLoc_spec (op : RotOp) (m : Loc) (cost : Nat) (s : State) :
    ∃ t, rotateLoc op m cost s = .next t ∧
      Effect.Holds ⟨s.locRegs m (shuffle op (s.readLoc m) s.flags.c).1 ++
        [(.f, (shiftFlags (shuffle op (s.readLoc m) s.flags.c).1 (shuffle op (s.readLoc m) s.flags.c).2).toByte)],
        s.locStores m (shuffle op (s.readLoc m) s.flags.c).1, s.specials, cost⟩ s t :=
  ⟨_, rfl, ((s.writeLoc_spec m _).setFlags _ (by simp) (by simp)).withCost _⟩

theorem bitLoc_spec (b : Fin 8) (m : Loc) (cost : Nat) (s : State) :
    ∃ t, bitLoc b m cost s = .next t ∧
      Effect.Holds ⟨[(.f, (bitFlags b (s.readLoc m) s.flags).toByte)], [], s.specials, cost⟩ s t :=
  ⟨_, rfl, ((Effect.Holds.refl s).setFlags _ rfl (by simp)).withCost _⟩

theorem resLoc_spec (b : Fin 8) (m : Loc) (cost : Nat) (s : State) :
    ∃ t, resLoc b m cost s = .next t ∧
      Effect.Holds ⟨s.locRegs m (s.readLoc m &&& ~~~((1 : Byte) <<< b.val)),
        s.locStores m (s.readLoc m &&& ~~~((1 : Byte) <<< b.val)), s.specials, cost⟩ s t :=
  ⟨_, rfl, (s.writeLoc_spec m _).withCost _⟩

theorem setLoc_spec (b : Fin 8) (m : Loc) (cost : Nat) (s : State) :
    ∃ t, setLoc b m cost s = .next t ∧
      Effect.Holds ⟨s.locRegs m (s.readLoc m ||| (1 : Byte) <<< b.val), s.locStores m (s.readLoc m ||| (1 : Byte) <<< b.val),
        s.specials, cost⟩ s t :=
  ⟨_, rfl, (s.writeLoc_spec m _).withCost _⟩

theorem rotateDigits_spec (v a : Byte) (cost : Nat) (s : State) :
    ∃ t, rotateDigits v a cost s = .next t ∧
      Effect.Holds ⟨[(.a, a), (.f, (valueFlags a s.flags).toByte)], [(s.hl, v)], s.specials, cost⟩ s t :=
  ⟨_, rfl, ((((Effect.Holds.refl s).write s.hl v (by simp)).setReg .a a rfl (by simp)).setFlags _ rfl (by simp)).withCost _⟩

/-! ## The forms of a family run its shared operation, at the form's cost -/

theorem exec_addForms (src : Src) (s : State) : exec (addForms src) s = aluAdd src false src.aluCost s := by
  rcases src with (_ | _ | ⟨_ | _, _⟩) | _ <;> rfl

theorem exec_adcForms (src : Src) (s : State) : exec (adcForms src) s = aluAdd src s.flags.c src.aluCost s := by
  rcases src with (_ | _ | ⟨_ | _, _⟩) | _ <;> rfl

theorem exec_subForms (src : Src) (s : State) : exec (subForms src) s = aluSub src false src.aluCost s := by
  rcases src with (_ | _ | ⟨_ | _, _⟩) | _ <;> rfl

theorem exec_sbcForms (src : Src) (s : State) : exec (sbcForms src) s = aluSub src s.flags.c src.aluCost s := by
  rcases src with (_ | _ | ⟨_ | _, _⟩) | _ <;> rfl

theorem exec_andForms (src : Src) (s : State) : exec (andForms src) s =
    aluLogic (s.reg .a &&& s.readSrc src) true src.aluCost s := by
  rcases src with (_ | _ | ⟨_ | _, _⟩) | _ <;> rfl

theorem exec_xorForms (src : Src) (s : State) : exec (xorForms src) s =
    aluLogic (s.reg .a ^^^ s.readSrc src) false src.aluCost s := by
  rcases src with (_ | _ | ⟨_ | _, _⟩) | _ <;> rfl

theorem exec_orForms (src : Src) (s : State) : exec (orForms src) s =
    aluLogic (s.reg .a ||| s.readSrc src) false src.aluCost s := by
  rcases src with (_ | _ | ⟨_ | _, _⟩) | _ <;> rfl

theorem exec_cpForms (src : Src) (s : State) : exec (cpForms src) s = aluCompare src src.aluCost s := by
  rcases src with (_ | _ | ⟨_ | _, _⟩) | _ <;> rfl

theorem exec_incForms (m : Loc) (s : State) : exec (incForms m) s = incLoc m m.incCost s := by
  rcases m with _ | _ | ⟨_ | _, _⟩ <;> rfl

theorem exec_decForms (m : Loc) (s : State) : exec (decForms m) s = decLoc m m.incCost s := by
  rcases m with _ | _ | ⟨_ | _, _⟩ <;> rfl

theorem exec_rotForms (op : RotOp) (m : Loc) (s : State) : exec (rotForms op m) s = rotateLoc op m m.rotCost s := by
  cases op <;> rcases m with _ | _ | ⟨_ | _, _⟩ <;> rfl

theorem exec_bitForms (b : Fin 8) (m : Loc) (s : State) : exec (bitForms b m) s = bitLoc b m m.bitCost s := by
  rcases m with _ | _ | ⟨_ | _, _⟩ <;> rfl

theorem exec_resForms (b : Fin 8) (m : Loc) (s : State) : exec (resForms b m) s = resLoc b m m.rotCost s := by
  rcases m with _ | _ | ⟨_ | _, _⟩ <;> rfl

theorem exec_setForms (b : Fin 8) (m : Loc) (s : State) : exec (setForms b m) s = setLoc b m m.rotCost s := by
  rcases m with _ | _ | ⟨_ | _, _⟩ <;> rfl

/-! ## Jumps, calls and returns -/

theorem jumpTo_spec (a : Word) (c : Nat) (s : State) :
    ∃ t, jumpTo a c s = .next t ∧ Effect.Holds ⟨[], [], { s.specials with pc := a }, c⟩ s t :=
  ⟨_, rfl, ((Effect.Holds.refl s).setPc a).withCost c⟩

theorem callTo_spec (a : Word) (c : Nat) (s : State) :
    ∃ t, callTo a c s = .next t ∧
      Effect.Holds ⟨[], pushedAt s.sp s.pc, { s.specials with sp := s.sp - 2, pc := a }, c⟩ s t :=
  ⟨_, rfl, ((s.push16_holds s.pc).setPc a).withCost c⟩

theorem returnFrom_spec (c : Nat) (s : State) :
    ∃ t, returnFrom c s = .next t ∧
      Effect.Holds ⟨[], [], { s.specials with sp := s.sp + 2, pc := Bits.pair (s.read (s.sp + 1)) (s.read s.sp) }, c⟩ s t :=
  ⟨_, rfl, (((Effect.Holds.refl s).setPc s.popped).setSp (s.sp + 2)).withCost c⟩

theorem State.returnFromInterrupt_spec (s : State) :
    Effect.Holds ⟨[], [], { s.specials with
      sp := s.sp + 2, pc := Bits.pair (s.read (s.sp + 1)) (s.read s.sp), iff1 := s.iff2 }, s.cost⟩ s s.returnFromInterrupt :=
  (((Effect.Holds.refl s).setPc s.popped).setSp (s.sp + 2)).setIff1 s.iff2

/-! ## Ports -/

/-- A port read touches the VDP alone. -/
theorem State.portIn_spec (s : State) (port : Word) :
    Effect.Holds ⟨[], [], { s.specials with vdp := (s.portIn port).2.vdp }, s.cost⟩ s (s.portIn port).2 := by
  have h := Effect.Holds.refl s
  simp only [State.portIn]
  split
  · exact h.setVdp _
  · exact h.setVdp _
  all_goals exact h

/-- A port write touches the VDP, the controller mode and the event list alone. -/
theorem State.portOut_spec (s : State) (port : Word) (v : Byte) :
    Effect.Holds ⟨[], [], { s.specials with
      vdp := (s.portOut port v).vdp, joyMode := (s.portOut port v).joyMode, events := (s.portOut port v).events }, s.cost⟩
      s (s.portOut port v) := by
  have h := Effect.Holds.refl s
  simp only [State.portOut]
  split
  · exact h.setVdp _
  · exact h.setVdp _
  · exact h.setJoyMode _
  · exact h.setJoyMode _
  · exact h.emit _
  · exact h

/-- Which device a port's low byte selects, by its three high bits and, for the VDP, bit 0 (R220). -/
theorem portOf_cases : ∀ p : Byte, portOf p =
    if p &&& 0xE0 = 0xA0 then (if p.getLsbD 0 then .vdpControl else .vdpData)
    else if p &&& 0xE0 = 0x80 then .joyModeA
    else if p &&& 0xE0 = 0xC0 then .joyModeB
    else if p &&& 0xE0 = 0xE0 then .controllerOrSound
    else .unmapped := by decide

/-- A port read changes no field but the VDP. -/
theorem State.portIn_specials (s : State) (port : Word) :
    (s.portIn port).2.specials = { s.specials with vdp := (s.portIn port).2.vdp } := (s.portIn_spec port).2.1

/-- A port write changes no field but the VDP, the controller mode and the event list. -/
theorem State.portOut_specials (s : State) (port : Word) (v : Byte) :
    (s.portOut port v).specials = { s.specials with
      vdp := (s.portOut port v).vdp, joyMode := (s.portOut port v).joyMode, events := (s.portOut port v).events } :=
  (s.portOut_spec port v).2.1

@[simp] theorem State.portIn_selector (s : State) (port : Word) (q : RegName) :
    (s.portIn port).2.selector q = s.selector q := by
  have h1 : (s.portIn port).2.afSel = s.afSel := congrArg Specials.afSel (s.portIn_specials port)
  have h2 : (s.portIn port).2.mainSel = s.mainSel := congrArg Specials.mainSel (s.portIn_specials port)
  cases q <;> simp [State.selector, h1, h2]

@[simp] theorem State.portOut_selector (s : State) (port : Word) (v : Byte) (q : RegName) :
    (s.portOut port v).selector q = s.selector q := by
  have h1 : (s.portOut port v).afSel = s.afSel := congrArg Specials.afSel (s.portOut_specials port v)
  have h2 : (s.portOut port v).mainSel = s.mainSel := congrArg Specials.mainSel (s.portOut_specials port v)
  cases q <;> simp [State.selector, h1, h2]

@[simp] theorem State.portOut_reg (s : State) (port : Word) (v : Byte) (q : RegName) :
    (s.portOut port v).reg q = s.reg q := by
  have h := (s.portOut_spec port v).2.2.2.1 (s.selector q) q (by simp)
  simp only [State.reg, State.portOut_selector, h]

/-- A port write and a register write commute. -/
theorem State.setReg_portOut (s : State) (q : RegName) (w v : Byte) (port : Word) :
    (s.setReg q w).portOut port v = (s.portOut port v).setReg q w := by
  simp only [State.portOut]
  cases portOf (Bits.lo port) <;> rfl

/-- One iteration of a block input: B, HL and F, the byte stored, and what the port read does. -/
theorem State.blockIn_spec (s : State) (up : Bool) :
    Effect.Holds ⟨[(.b, s.reg .b - 1)] ++ Rp.hl.regs (stepBy up s.hl) ++
      [(.f, (blockIOFlags (s.reg .b - 1) (s.portIn s.bc).1
        ((s.portIn s.bc).1.toNat + (if up then s.reg .c + 1 else s.reg .c - 1).toNat)).toByte)],
      [(s.hl, (s.portIn s.bc).1)], (s.portIn s.bc).2.specials, s.cost⟩ s (s.blockIn up) := by
  rw [State.portIn_specials]
  exact (((((s.portIn_spec s.bc).write s.hl _ (by simp)).setReg .b (s.reg .b - 1) (by simp) (by simp)).setReg
    .h (Bits.hi (stepBy up s.hl)) (by simp) (by simp)).setReg .l (Bits.lo (stepBy up s.hl)) (by simp) (by simp)).setFlags _
    (by simp) (by simp)

/-- One iteration of a block output: B, HL and F, and what the port write does, addressed with B after its decrement. -/
theorem State.blockOut_spec (s : State) (up : Bool) :
    Effect.Holds ⟨[(.b, s.reg .b - 1)] ++ Rp.hl.regs (stepBy up s.hl) ++
      [(.f, (blockIOFlags (s.reg .b - 1) (s.read s.hl)
        ((s.read s.hl).toNat + (Bits.lo (stepBy up s.hl)).toNat)).toByte)],
      [], (s.portOut (Bits.pair (s.reg .b - 1) (s.reg .c)) (s.read s.hl)).specials, s.cost⟩ s (s.blockOut up) := by
  rw [State.portOut_specials]
  have h := ((((s.portOut_spec (Bits.pair (s.reg .b - 1) (s.reg .c)) (s.read s.hl)).setReg .b (s.reg .b - 1) (by simp)
    (by simp)).setReg .h (Bits.hi (stepBy up s.hl)) (by simp) (by simp)).setReg .l (Bits.lo (stepBy up s.hl)) (by simp)
    (by simp)).setFlags (blockIOFlags (s.reg .b - 1) (s.read s.hl)
      ((s.read s.hl).toNat + (Bits.lo (stepBy up s.hl)).toNat)) (by simp) (by simp)
  have e : s.blockOut up = ((((s.portOut (Bits.pair (s.reg .b - 1) (s.reg .c)) (s.read s.hl)).setReg .b
      (s.reg .b - 1)).setReg .h (Bits.hi (stepBy up s.hl))).setReg .l (Bits.lo (stepBy up s.hl))).setFlags
      (blockIOFlags (s.reg .b - 1) (s.read s.hl) ((s.read s.hl).toNat + (Bits.lo (stepBy up s.hl)).toNat)) := by
    simp only [State.blockOut, State.setHl, State.setReg_portOut]
    simp [State.bc, State.hl]
  rw [e]
  exact h

end Sys2Proof.Machine
end

