-- ==== Sys2Proof/Laws/PerInstr.lean ====
section
/-! SUPPORT. One lemma per constructor of `Instr`: the encoding has as many bytes as the decoder moves `pc` by, one to four
(30_encoding.md R300, R302). -/

namespace Sys2Proof.Laws.EncodedLength

/-- The encoding of `i` has `i.length` bytes, one to four. -/
def Statement (i : Instr) : Prop := (encode i).length = i.length ∧ 1 ≤ i.length ∧ i.length ≤ 4

/-- A length and an encoding of the same size. -/
theorem sized {i : Instr} (n : Nat) (hl : i.length = n) (he : (encode i).length = n) (hn : 1 ≤ n ∧ n ≤ 4) :
    Statement i := ⟨he.trans hl.symm, hl ▸ hn.1, hl ▸ hn.2⟩

theorem ldRR (r : Reg8) (r' : Reg8) : Statement (.ldRR r r') := sized 1 rfl rfl (by decide)

theorem ldRN (r : Reg8) (n : Byte) : Statement (.ldRN r n) := sized 2 rfl rfl (by decide)

theorem ldRAtHl (r : Reg8) : Statement (.ldRAtHl r) := sized 1 rfl rfl (by decide)

theorem ldAtHlR (r : Reg8) : Statement (.ldAtHlR r) := sized 1 rfl rfl (by decide)

theorem ldAtHlN (n : Byte) : Statement (.ldAtHlN n) := sized 2 rfl rfl (by decide)

theorem ldAAtBc : Statement .ldAAtBc := sized 1 rfl rfl (by decide)

theorem ldAAtDe : Statement .ldAAtDe := sized 1 rfl rfl (by decide)

theorem ldAAtNn (nn : Word) : Statement (.ldAAtNn nn) := sized 3 rfl rfl (by decide)

theorem ldAtBcA : Statement .ldAtBcA := sized 1 rfl rfl (by decide)

theorem ldAtDeA : Statement .ldAtDeA := sized 1 rfl rfl (by decide)

theorem ldAtNnA (nn : Word) : Statement (.ldAtNnA nn) := sized 3 rfl rfl (by decide)

theorem ldRIxd (r : Reg8) (d : Byte) : Statement (.ldRIxd r d) := sized 3 rfl rfl (by decide)

theorem ldRIyd (r : Reg8) (d : Byte) : Statement (.ldRIyd r d) := sized 3 rfl rfl (by decide)

theorem ldIxdR (d : Byte) (r : Reg8) : Statement (.ldIxdR d r) := sized 3 rfl rfl (by decide)

theorem ldIydR (d : Byte) (r : Reg8) : Statement (.ldIydR d r) := sized 3 rfl rfl (by decide)

theorem ldIxdN (d : Byte) (n : Byte) : Statement (.ldIxdN d n) := sized 4 rfl rfl (by decide)

theorem ldIydN (d : Byte) (n : Byte) : Statement (.ldIydN d n) := sized 4 rfl rfl (by decide)

theorem ldAI : Statement .ldAI := sized 2 rfl rfl (by decide)

theorem ldAR : Statement .ldAR := sized 2 rfl rfl (by decide)

theorem ldIA : Statement .ldIA := sized 2 rfl rfl (by decide)

theorem ldRA : Statement .ldRA := sized 2 rfl rfl (by decide)

theorem ldRrNn (rr : Rp) (nn : Word) : Statement (.ldRrNn rr nn) := sized 3 rfl rfl (by decide)

theorem ldIxNn (nn : Word) : Statement (.ldIxNn nn) := sized 4 rfl rfl (by decide)

theorem ldIyNn (nn : Word) : Statement (.ldIyNn nn) := sized 4 rfl rfl (by decide)

theorem ldHlAtNn (nn : Word) : Statement (.ldHlAtNn nn) := sized 3 rfl rfl (by decide)

theorem ldIxAtNn (nn : Word) : Statement (.ldIxAtNn nn) := sized 4 rfl rfl (by decide)

theorem ldIyAtNn (nn : Word) : Statement (.ldIyAtNn nn) := sized 4 rfl rfl (by decide)

theorem ldRrAtNn (rr : Rp) (nn : Word) : Statement (.ldRrAtNn rr nn) := sized 4 rfl rfl (by decide)

theorem ldAtNnHl (nn : Word) : Statement (.ldAtNnHl nn) := sized 3 rfl rfl (by decide)

theorem ldAtNnIx (nn : Word) : Statement (.ldAtNnIx nn) := sized 4 rfl rfl (by decide)

theorem ldAtNnIy (nn : Word) : Statement (.ldAtNnIy nn) := sized 4 rfl rfl (by decide)

theorem ldAtNnRr (nn : Word) (rr : Rp) : Statement (.ldAtNnRr nn rr) := sized 4 rfl rfl (by decide)

theorem ldSpHl : Statement .ldSpHl := sized 1 rfl rfl (by decide)

theorem ldSpIx : Statement .ldSpIx := sized 2 rfl rfl (by decide)

theorem ldSpIy : Statement .ldSpIy := sized 2 rfl rfl (by decide)

theorem pushQq (qq : Qq) : Statement (.pushQq qq) := sized 1 rfl rfl (by decide)

theorem pushIx : Statement .pushIx := sized 2 rfl rfl (by decide)

theorem pushIy : Statement .pushIy := sized 2 rfl rfl (by decide)

theorem popQq (qq : Qq) : Statement (.popQq qq) := sized 1 rfl rfl (by decide)

theorem popIx : Statement .popIx := sized 2 rfl rfl (by decide)

theorem popIy : Statement .popIy := sized 2 rfl rfl (by decide)

theorem exDeHl : Statement .exDeHl := sized 1 rfl rfl (by decide)

theorem exAfAf : Statement .exAfAf := sized 1 rfl rfl (by decide)

theorem exx : Statement .exx := sized 1 rfl rfl (by decide)

theorem exAtSpHl : Statement .exAtSpHl := sized 1 rfl rfl (by decide)

theorem exAtSpIx : Statement .exAtSpIx := sized 2 rfl rfl (by decide)

theorem exAtSpIy : Statement .exAtSpIy := sized 2 rfl rfl (by decide)

theorem ldi : Statement .ldi := sized 2 rfl rfl (by decide)

theorem ldir : Statement .ldir := sized 2 rfl rfl (by decide)

theorem ldd : Statement .ldd := sized 2 rfl rfl (by decide)

theorem lddr : Statement .lddr := sized 2 rfl rfl (by decide)

theorem cpi : Statement .cpi := sized 2 rfl rfl (by decide)

theorem cpir : Statement .cpir := sized 2 rfl rfl (by decide)

theorem cpd : Statement .cpd := sized 2 rfl rfl (by decide)

theorem cpdr : Statement .cpdr := sized 2 rfl rfl (by decide)

theorem addR (r : Reg8) : Statement (.addR r) := sized 1 rfl rfl (by decide)

theorem addAtHl : Statement .addAtHl := sized 1 rfl rfl (by decide)

theorem addN (n : Byte) : Statement (.addN n) := sized 2 rfl rfl (by decide)

theorem addIxd (d : Byte) : Statement (.addIxd d) := sized 3 rfl rfl (by decide)

theorem addIyd (d : Byte) : Statement (.addIyd d) := sized 3 rfl rfl (by decide)

theorem adcR (r : Reg8) : Statement (.adcR r) := sized 1 rfl rfl (by decide)

theorem adcAtHl : Statement .adcAtHl := sized 1 rfl rfl (by decide)

theorem adcN (n : Byte) : Statement (.adcN n) := sized 2 rfl rfl (by decide)

theorem adcIxd (d : Byte) : Statement (.adcIxd d) := sized 3 rfl rfl (by decide)

theorem adcIyd (d : Byte) : Statement (.adcIyd d) := sized 3 rfl rfl (by decide)

theorem subR (r : Reg8) : Statement (.subR r) := sized 1 rfl rfl (by decide)

theorem subAtHl : Statement .subAtHl := sized 1 rfl rfl (by decide)

theorem subN (n : Byte) : Statement (.subN n) := sized 2 rfl rfl (by decide)

theorem subIxd (d : Byte) : Statement (.subIxd d) := sized 3 rfl rfl (by decide)

theorem subIyd (d : Byte) : Statement (.subIyd d) := sized 3 rfl rfl (by decide)

theorem sbcR (r : Reg8) : Statement (.sbcR r) := sized 1 rfl rfl (by decide)

theorem sbcAtHl : Statement .sbcAtHl := sized 1 rfl rfl (by decide)

theorem sbcN (n : Byte) : Statement (.sbcN n) := sized 2 rfl rfl (by decide)

theorem sbcIxd (d : Byte) : Statement (.sbcIxd d) := sized 3 rfl rfl (by decide)

theorem sbcIyd (d : Byte) : Statement (.sbcIyd d) := sized 3 rfl rfl (by decide)

theorem andR (r : Reg8) : Statement (.andR r) := sized 1 rfl rfl (by decide)

theorem andAtHl : Statement .andAtHl := sized 1 rfl rfl (by decide)

theorem andN (n : Byte) : Statement (.andN n) := sized 2 rfl rfl (by decide)

theorem andIxd (d : Byte) : Statement (.andIxd d) := sized 3 rfl rfl (by decide)

theorem andIyd (d : Byte) : Statement (.andIyd d) := sized 3 rfl rfl (by decide)

theorem xorR (r : Reg8) : Statement (.xorR r) := sized 1 rfl rfl (by decide)

theorem xorAtHl : Statement .xorAtHl := sized 1 rfl rfl (by decide)

theorem xorN (n : Byte) : Statement (.xorN n) := sized 2 rfl rfl (by decide)

theorem xorIxd (d : Byte) : Statement (.xorIxd d) := sized 3 rfl rfl (by decide)

theorem xorIyd (d : Byte) : Statement (.xorIyd d) := sized 3 rfl rfl (by decide)

theorem orR (r : Reg8) : Statement (.orR r) := sized 1 rfl rfl (by decide)

theorem orAtHl : Statement .orAtHl := sized 1 rfl rfl (by decide)

theorem orN (n : Byte) : Statement (.orN n) := sized 2 rfl rfl (by decide)

theorem orIxd (d : Byte) : Statement (.orIxd d) := sized 3 rfl rfl (by decide)

theorem orIyd (d : Byte) : Statement (.orIyd d) := sized 3 rfl rfl (by decide)

theorem cpR (r : Reg8) : Statement (.cpR r) := sized 1 rfl rfl (by decide)

theorem cpAtHl : Statement .cpAtHl := sized 1 rfl rfl (by decide)

theorem cpN (n : Byte) : Statement (.cpN n) := sized 2 rfl rfl (by decide)

theorem cpIxd (d : Byte) : Statement (.cpIxd d) := sized 3 rfl rfl (by decide)

theorem cpIyd (d : Byte) : Statement (.cpIyd d) := sized 3 rfl rfl (by decide)

theorem incR (r : Reg8) : Statement (.incR r) := sized 1 rfl rfl (by decide)

theorem incAtHl : Statement .incAtHl := sized 1 rfl rfl (by decide)

theorem incIxd (d : Byte) : Statement (.incIxd d) := sized 3 rfl rfl (by decide)

theorem incIyd (d : Byte) : Statement (.incIyd d) := sized 3 rfl rfl (by decide)

theorem decR (r : Reg8) : Statement (.decR r) := sized 1 rfl rfl (by decide)

theorem decAtHl : Statement .decAtHl := sized 1 rfl rfl (by decide)

theorem decIxd (d : Byte) : Statement (.decIxd d) := sized 3 rfl rfl (by decide)

theorem decIyd (d : Byte) : Statement (.decIyd d) := sized 3 rfl rfl (by decide)

theorem daa : Statement .daa := sized 1 rfl rfl (by decide)

theorem cpl : Statement .cpl := sized 1 rfl rfl (by decide)

theorem neg : Statement .neg := sized 2 rfl rfl (by decide)

theorem ccf : Statement .ccf := sized 1 rfl rfl (by decide)

theorem scf : Statement .scf := sized 1 rfl rfl (by decide)

theorem addHlRr (rr : Rp) : Statement (.addHlRr rr) := sized 1 rfl rfl (by decide)

theorem addIxRr (rr : RpX) : Statement (.addIxRr rr) := sized 2 rfl rfl (by decide)

theorem addIyRr (rr : RpX) : Statement (.addIyRr rr) := sized 2 rfl rfl (by decide)

theorem adcHlRr (rr : Rp) : Statement (.adcHlRr rr) := sized 2 rfl rfl (by decide)

theorem sbcHlRr (rr : Rp) : Statement (.sbcHlRr rr) := sized 2 rfl rfl (by decide)

theorem incRr (rr : Rp) : Statement (.incRr rr) := sized 1 rfl rfl (by decide)

theorem incIx : Statement .incIx := sized 2 rfl rfl (by decide)

theorem incIy : Statement .incIy := sized 2 rfl rfl (by decide)

theorem decRr (rr : Rp) : Statement (.decRr rr) := sized 1 rfl rfl (by decide)

theorem decIx : Statement .decIx := sized 2 rfl rfl (by decide)

theorem decIy : Statement .decIy := sized 2 rfl rfl (by decide)

theorem rlca : Statement .rlca := sized 1 rfl rfl (by decide)

theorem rrca : Statement .rrca := sized 1 rfl rfl (by decide)

theorem rla : Statement .rla := sized 1 rfl rfl (by decide)

theorem rra : Statement .rra := sized 1 rfl rfl (by decide)

theorem rlcR (r : Reg8) : Statement (.rlcR r) := sized 2 rfl rfl (by decide)

theorem rlcAtHl : Statement .rlcAtHl := sized 2 rfl rfl (by decide)

theorem rlcIxd (d : Byte) : Statement (.rlcIxd d) := sized 4 rfl rfl (by decide)

theorem rlcIyd (d : Byte) : Statement (.rlcIyd d) := sized 4 rfl rfl (by decide)

theorem rrcR (r : Reg8) : Statement (.rrcR r) := sized 2 rfl rfl (by decide)

theorem rrcAtHl : Statement .rrcAtHl := sized 2 rfl rfl (by decide)

theorem rrcIxd (d : Byte) : Statement (.rrcIxd d) := sized 4 rfl rfl (by decide)

theorem rrcIyd (d : Byte) : Statement (.rrcIyd d) := sized 4 rfl rfl (by decide)

theorem rlR (r : Reg8) : Statement (.rlR r) := sized 2 rfl rfl (by decide)

theorem rlAtHl : Statement .rlAtHl := sized 2 rfl rfl (by decide)

theorem rlIxd (d : Byte) : Statement (.rlIxd d) := sized 4 rfl rfl (by decide)

theorem rlIyd (d : Byte) : Statement (.rlIyd d) := sized 4 rfl rfl (by decide)

theorem rrR (r : Reg8) : Statement (.rrR r) := sized 2 rfl rfl (by decide)

theorem rrAtHl : Statement .rrAtHl := sized 2 rfl rfl (by decide)

theorem rrIxd (d : Byte) : Statement (.rrIxd d) := sized 4 rfl rfl (by decide)

theorem rrIyd (d : Byte) : Statement (.rrIyd d) := sized 4 rfl rfl (by decide)

theorem slaR (r : Reg8) : Statement (.slaR r) := sized 2 rfl rfl (by decide)

theorem slaAtHl : Statement .slaAtHl := sized 2 rfl rfl (by decide)

theorem slaIxd (d : Byte) : Statement (.slaIxd d) := sized 4 rfl rfl (by decide)

theorem slaIyd (d : Byte) : Statement (.slaIyd d) := sized 4 rfl rfl (by decide)

theorem sraR (r : Reg8) : Statement (.sraR r) := sized 2 rfl rfl (by decide)

theorem sraAtHl : Statement .sraAtHl := sized 2 rfl rfl (by decide)

theorem sraIxd (d : Byte) : Statement (.sraIxd d) := sized 4 rfl rfl (by decide)

theorem sraIyd (d : Byte) : Statement (.sraIyd d) := sized 4 rfl rfl (by decide)

theorem sllR (r : Reg8) : Statement (.sllR r) := sized 2 rfl rfl (by decide)

theorem sllAtHl : Statement .sllAtHl := sized 2 rfl rfl (by decide)

theorem sllIxd (d : Byte) : Statement (.sllIxd d) := sized 4 rfl rfl (by decide)

theorem sllIyd (d : Byte) : Statement (.sllIyd d) := sized 4 rfl rfl (by decide)

theorem srlR (r : Reg8) : Statement (.srlR r) := sized 2 rfl rfl (by decide)

theorem srlAtHl : Statement .srlAtHl := sized 2 rfl rfl (by decide)

theorem srlIxd (d : Byte) : Statement (.srlIxd d) := sized 4 rfl rfl (by decide)

theorem srlIyd (d : Byte) : Statement (.srlIyd d) := sized 4 rfl rfl (by decide)

theorem bitR (b : Fin 8) (r : Reg8) : Statement (.bitR b r) := sized 2 rfl rfl (by decide)

theorem bitAtHl (b : Fin 8) : Statement (.bitAtHl b) := sized 2 rfl rfl (by decide)

theorem bitIxd (b : Fin 8) (d : Byte) : Statement (.bitIxd b d) := sized 4 rfl rfl (by decide)

theorem bitIyd (b : Fin 8) (d : Byte) : Statement (.bitIyd b d) := sized 4 rfl rfl (by decide)

theorem resR (b : Fin 8) (r : Reg8) : Statement (.resR b r) := sized 2 rfl rfl (by decide)

theorem resAtHl (b : Fin 8) : Statement (.resAtHl b) := sized 2 rfl rfl (by decide)

theorem resIxd (b : Fin 8) (d : Byte) : Statement (.resIxd b d) := sized 4 rfl rfl (by decide)

theorem resIyd (b : Fin 8) (d : Byte) : Statement (.resIyd b d) := sized 4 rfl rfl (by decide)

theorem setR (b : Fin 8) (r : Reg8) : Statement (.setR b r) := sized 2 rfl rfl (by decide)

theorem setAtHl (b : Fin 8) : Statement (.setAtHl b) := sized 2 rfl rfl (by decide)

theorem setIxd (b : Fin 8) (d : Byte) : Statement (.setIxd b d) := sized 4 rfl rfl (by decide)

theorem setIyd (b : Fin 8) (d : Byte) : Statement (.setIyd b d) := sized 4 rfl rfl (by decide)

theorem rld : Statement .rld := sized 2 rfl rfl (by decide)

theorem rrd : Statement .rrd := sized 2 rfl rfl (by decide)

theorem jpNn (nn : Word) : Statement (.jpNn nn) := sized 3 rfl rfl (by decide)

theorem jpCcNn (cc : Cond) (nn : Word) : Statement (.jpCcNn cc nn) := sized 3 rfl rfl (by decide)

theorem jrE (e : Byte) : Statement (.jrE e) := sized 2 rfl rfl (by decide)

theorem jrCcE (cc : Cond) (e : Byte) : Statement (.jrCcE cc e) := sized 2 rfl rfl (by decide)

theorem djnzE (e : Byte) : Statement (.djnzE e) := sized 2 rfl rfl (by decide)

theorem jpHl : Statement .jpHl := sized 1 rfl rfl (by decide)

theorem jpIx : Statement .jpIx := sized 2 rfl rfl (by decide)

theorem jpIy : Statement .jpIy := sized 2 rfl rfl (by decide)

theorem callNn (nn : Word) : Statement (.callNn nn) := sized 3 rfl rfl (by decide)

theorem callCcNn (cc : Cond) (nn : Word) : Statement (.callCcNn cc nn) := sized 3 rfl rfl (by decide)

theorem ret : Statement .ret := sized 1 rfl rfl (by decide)

theorem retCc (cc : Cond) : Statement (.retCc cc) := sized 1 rfl rfl (by decide)

theorem reti : Statement .reti := sized 2 rfl rfl (by decide)

theorem retn : Statement .retn := sized 2 rfl rfl (by decide)

theorem rst (p : Byte) : Statement (.rst p) := sized 1 rfl rfl (by decide)

theorem inAN (n : Byte) : Statement (.inAN n) := sized 2 rfl rfl (by decide)

theorem inRC (r : Reg8) : Statement (.inRC r) := sized 2 rfl rfl (by decide)

theorem outNA (n : Byte) : Statement (.outNA n) := sized 2 rfl rfl (by decide)

theorem outCR (r : Reg8) : Statement (.outCR r) := sized 2 rfl rfl (by decide)

theorem ini : Statement .ini := sized 2 rfl rfl (by decide)

theorem inir : Statement .inir := sized 2 rfl rfl (by decide)

theorem ind : Statement .ind := sized 2 rfl rfl (by decide)

theorem indr : Statement .indr := sized 2 rfl rfl (by decide)

theorem outi : Statement .outi := sized 2 rfl rfl (by decide)

theorem otir : Statement .otir := sized 2 rfl rfl (by decide)

theorem outd : Statement .outd := sized 2 rfl rfl (by decide)

theorem otdr : Statement .otdr := sized 2 rfl rfl (by decide)

theorem nop : Statement .nop := sized 1 rfl rfl (by decide)

theorem halt : Statement .halt := sized 1 rfl rfl (by decide)

theorem di : Statement .di := sized 1 rfl rfl (by decide)

theorem ei : Statement .ei := sized 1 rfl rfl (by decide)

theorem im0 : Statement .im0 := sized 2 rfl rfl (by decide)

theorem im1 : Statement .im1 := sized 2 rfl rfl (by decide)

theorem im2 : Statement .im2 := sized 2 rfl rfl (by decide)

end Sys2Proof.Laws.EncodedLength
end

