-- ==== Sys2Proof/Tests/Slice0.lean ====
section
/-! SUPPORT. The tests: ill-formed terms that WellFormed refuses, a word of every constructor decoded, single steps with the
end states of spec/95_test_vectors.md and of the rules' own examples, and, for every statement with hypotheses, a concrete
state and operands that meet them. -/

namespace Sys2Proof.Tests

open Sys2Proof.Machine

/-! ## Well-formedness -/

theorem test_jr_on_parity_refused : (Instr.jrCcE .po 0x05).wellFormed = false := by decide

theorem test_jr_on_sign_refused : (Instr.jrCcE .m 0x05).wellFormed = false := by decide

theorem test_rst_between_targets_refused : (Instr.rst 0x05).wellFormed = false := by decide

theorem test_rst_above_targets_refused : (Instr.rst 0x40).wellFormed = false := by decide

theorem test_encodable_admitted : (Instr.jrCcE .c 0x05).wellFormed = true ∧ (Instr.rst 0x38).wellFormed = true := by decide

/-! ## Decoding: words written out from the `encoding` patterns of spec/opcode_table.json, every constructor -/

/-- Each word decodes to the instruction beside it. -/
abbrev Decoded (rows : List (List Byte × Instr)) : Prop :=
  rows.map (fun row => decodeBytes row.1) = rows.map fun row => .ok row.2

/-- Words of 40_load8.md. -/
def wordsLoad8 : List (List Byte × Instr) :=
  [([0x41], .ldRR .b .c), ([0x16, 0x01], .ldRN .d 0x01), ([0x5E], .ldRAtHl .e), ([0x74], .ldAtHlR .h),
   ([0x36, 0xAB], .ldAtHlN 0xAB), ([0x0A], .ldAAtBc), ([0x1A], .ldAAtDe), ([0x3A, 0x10, 0x70], .ldAAtNn 0x7010),
   ([0x02], .ldAtBcA), ([0x12], .ldAtDeA), ([0x32, 0x34, 0x12], .ldAtNnA 0x1234), ([0xDD, 0x6E, 0x01], .ldRIxd .l 0x01),
   ([0xFD, 0x7E, 0xAB], .ldRIyd .a 0xAB), ([0xDD, 0x70, 0x7F], .ldIxdR 0x7F .b), ([0xFD, 0x71, 0x80], .ldIydR 0x80 .c),
   ([0xDD, 0x36, 0xFF, 0x7F], .ldIxdN 0xFF 0x7F), ([0xFD, 0x36, 0x5A, 0x80], .ldIydN 0x5A 0x80), ([0xED, 0x57], .ldAI),
   ([0xED, 0x5F], .ldAR), ([0xED, 0x47], .ldIA), ([0xED, 0x4F], .ldRA)]

theorem test_decode_load8 : Decoded wordsLoad8 := by
  rfl

/-- Words of 41_load16_stack.md. -/
def wordsLoad16Stack : List (List Byte × Instr) :=
  [([0x01, 0xFF, 0x80], .ldRrNn .bc 0x80FF), ([0xDD, 0x21, 0x01, 0xC0], .ldIxNn 0xC001),
   ([0xFD, 0x21, 0x10, 0x70], .ldIyNn 0x7010), ([0x2A, 0x34, 0x12], .ldHlAtNn 0x1234),
   ([0xDD, 0x2A, 0xFF, 0x80], .ldIxAtNn 0x80FF), ([0xFD, 0x2A, 0x01, 0xC0], .ldIyAtNn 0xC001),
   ([0xED, 0x5B, 0x10, 0x70], .ldRrAtNn .de 0x7010), ([0x22, 0x34, 0x12], .ldAtNnHl 0x1234),
   ([0xDD, 0x22, 0xFF, 0x80], .ldAtNnIx 0x80FF), ([0xFD, 0x22, 0x01, 0xC0], .ldAtNnIy 0xC001),
   ([0xED, 0x63, 0x10, 0x70], .ldAtNnRr 0x7010 .hl), ([0xF9], .ldSpHl), ([0xDD, 0xF9], .ldSpIx), ([0xFD, 0xF9], .ldSpIy),
   ([0xC5], .pushQq .bc), ([0xDD, 0xE5], .pushIx), ([0xFD, 0xE5], .pushIy), ([0xD1], .popQq .de), ([0xDD, 0xE1], .popIx),
   ([0xFD, 0xE1], .popIy)]

theorem test_decode_load16_stack : Decoded wordsLoad16Stack := by
  rfl

/-- Words of 42_exchange_block.md. -/
def wordsExchangeBlock : List (List Byte × Instr) :=
  [([0xEB], .exDeHl), ([0x08], .exAfAf), ([0xD9], .exx), ([0xE3], .exAtSpHl), ([0xDD, 0xE3], .exAtSpIx),
   ([0xFD, 0xE3], .exAtSpIy), ([0xED, 0xA0], .ldi), ([0xED, 0xB0], .ldir), ([0xED, 0xA8], .ldd), ([0xED, 0xB8], .lddr),
   ([0xED, 0xA1], .cpi), ([0xED, 0xB1], .cpir), ([0xED, 0xA9], .cpd), ([0xED, 0xB9], .cpdr)]

theorem test_decode_exchange_block : Decoded wordsExchangeBlock := by
  rfl

/-- Words of 43_alu8.md. -/
def wordsAlu8A : List (List Byte × Instr) :=
  [([0x82], .addR .d), ([0x86], .addAtHl), ([0xC6, 0xFF], .addN 0xFF), ([0xDD, 0x86, 0x3C], .addIxd 0x3C),
   ([0xFD, 0x86, 0x01], .addIyd 0x01), ([0x8B], .adcR .e), ([0x8E], .adcAtHl), ([0xCE, 0x5A], .adcN 0x5A),
   ([0xDD, 0x8E, 0xAB], .adcIxd 0xAB), ([0xFD, 0x8E, 0x7F], .adcIyd 0x7F), ([0x94], .subR .h), ([0x96], .subAtHl),
   ([0xD6, 0x3C], .subN 0x3C), ([0xDD, 0x96, 0x80], .subIxd 0x80), ([0xFD, 0x96, 0xFF], .subIyd 0xFF),
   ([0x9D], .sbcR .l), ([0x9E], .sbcAtHl), ([0xDE, 0x01], .sbcN 0x01), ([0xDD, 0x9E, 0x5A], .sbcIxd 0x5A),
   ([0xFD, 0x9E, 0x3C], .sbcIyd 0x3C), ([0xA7], .andR .a), ([0xA6], .andAtHl), ([0xE6, 0xAB], .andN 0xAB),
   ([0xDD, 0xA6, 0x01], .andIxd 0x01)]

/-- Words of 43_alu8.md. -/
def wordsAlu8B : List (List Byte × Instr) :=
  [([0xFD, 0xA6, 0xAB], .andIyd 0xAB), ([0xA8], .xorR .b), ([0xAE], .xorAtHl), ([0xEE, 0x7F], .xorN 0x7F),
   ([0xDD, 0xAE, 0x7F], .xorIxd 0x7F), ([0xFD, 0xAE, 0x80], .xorIyd 0x80), ([0xB1], .orR .c), ([0xB6], .orAtHl),
   ([0xF6, 0x80], .orN 0x80), ([0xDD, 0xB6, 0xFF], .orIxd 0xFF), ([0xFD, 0xB6, 0x5A], .orIyd 0x5A), ([0xBA], .cpR .d),
   ([0xBE], .cpAtHl), ([0xFE, 0xFF], .cpN 0xFF), ([0xDD, 0xBE, 0x3C], .cpIxd 0x3C), ([0xFD, 0xBE, 0x01], .cpIyd 0x01),
   ([0x1C], .incR .e), ([0x34], .incAtHl), ([0xDD, 0x34, 0xAB], .incIxd 0xAB), ([0xFD, 0x34, 0x7F], .incIyd 0x7F),
   ([0x25], .decR .h), ([0x35], .decAtHl), ([0xDD, 0x35, 0x80], .decIxd 0x80), ([0xFD, 0x35, 0xFF], .decIyd 0xFF)]

/-- Words of 43_alu8.md. -/
def wordsAlu8C : List (List Byte × Instr) :=
  [([0x27], .daa), ([0x2F], .cpl), ([0xED, 0x44], .neg), ([0x3F], .ccf), ([0x37], .scf)]

/-- Words of 43_alu8.md. -/
def wordsAlu8 : List (List Byte × Instr) := wordsAlu8A ++ wordsAlu8B ++ wordsAlu8C

theorem test_decode_alu8 : Decoded wordsAlu8 := by
  rfl

/-- Words of 44_alu16.md. -/
def wordsAlu16 : List (List Byte × Instr) :=
  [([0x39], .addHlRr .sp), ([0xDD, 0x09], .addIxRr .bc), ([0xFD, 0x19], .addIyRr .de), ([0xED, 0x4A], .adcHlRr .bc),
   ([0xED, 0x52], .sbcHlRr .de), ([0x23], .incRr .hl), ([0xDD, 0x23], .incIx), ([0xFD, 0x23], .incIy),
   ([0x3B], .decRr .sp), ([0xDD, 0x2B], .decIx), ([0xFD, 0x2B], .decIy)]

theorem test_decode_alu16 : Decoded wordsAlu16 := by
  rfl

/-- Words of 45_rotate_bit.md, rotates and shifts. -/
def wordsRotateA : List (List Byte × Instr) :=
  [([0x07], .rlca), ([0x0F], .rrca), ([0x17], .rla), ([0x1F], .rra), ([0xCB, 0x05], .rlcR .l), ([0xCB, 0x06], .rlcAtHl),
   ([0xDD, 0xCB, 0x5A, 0x06], .rlcIxd 0x5A), ([0xFD, 0xCB, 0x3C, 0x06], .rlcIyd 0x3C), ([0xCB, 0x0F], .rrcR .a),
   ([0xCB, 0x0E], .rrcAtHl), ([0xDD, 0xCB, 0x01, 0x0E], .rrcIxd 0x01), ([0xFD, 0xCB, 0xAB, 0x0E], .rrcIyd 0xAB),
   ([0xCB, 0x10], .rlR .b), ([0xCB, 0x16], .rlAtHl), ([0xDD, 0xCB, 0x7F, 0x16], .rlIxd 0x7F),
   ([0xFD, 0xCB, 0x80, 0x16], .rlIyd 0x80), ([0xCB, 0x19], .rrR .c), ([0xCB, 0x1E], .rrAtHl),
   ([0xDD, 0xCB, 0xFF, 0x1E], .rrIxd 0xFF), ([0xFD, 0xCB, 0x5A, 0x1E], .rrIyd 0x5A), ([0xCB, 0x22], .slaR .d),
   ([0xCB, 0x26], .slaAtHl), ([0xDD, 0xCB, 0x3C, 0x26], .slaIxd 0x3C), ([0xFD, 0xCB, 0x01, 0x26], .slaIyd 0x01)]

/-- Words of 45_rotate_bit.md, rotates and shifts. -/
def wordsRotateB : List (List Byte × Instr) :=
  [([0xCB, 0x2B], .sraR .e), ([0xCB, 0x2E], .sraAtHl), ([0xDD, 0xCB, 0xAB, 0x2E], .sraIxd 0xAB),
   ([0xFD, 0xCB, 0x7F, 0x2E], .sraIyd 0x7F), ([0xCB, 0x34], .sllR .h), ([0xCB, 0x36], .sllAtHl),
   ([0xDD, 0xCB, 0x80, 0x36], .sllIxd 0x80), ([0xFD, 0xCB, 0xFF, 0x36], .sllIyd 0xFF), ([0xCB, 0x3D], .srlR .l),
   ([0xCB, 0x3E], .srlAtHl), ([0xDD, 0xCB, 0x5A, 0x3E], .srlIxd 0x5A), ([0xFD, 0xCB, 0x3C, 0x3E], .srlIyd 0x3C)]

/-- Words of 45_rotate_bit.md, rotates and shifts. -/
def wordsRotate : List (List Byte × Instr) := wordsRotateA ++ wordsRotateB

theorem test_decode_rotate : Decoded wordsRotate := by
  rfl

/-- Words of 45_rotate_bit.md, bits and digits. -/
def wordsBitDigit : List (List Byte × Instr) :=
  [([0xCB, 0x47], .bitR 0 .a), ([0xCB, 0x4E], .bitAtHl 1), ([0xDD, 0xCB, 0x01, 0x56], .bitIxd 2 0x01),
   ([0xFD, 0xCB, 0xAB, 0x5E], .bitIyd 3 0xAB), ([0xCB, 0xA0], .resR 4 .b), ([0xCB, 0xAE], .resAtHl 5),
   ([0xDD, 0xCB, 0x7F, 0xB6], .resIxd 6 0x7F), ([0xFD, 0xCB, 0x80, 0xBE], .resIyd 7 0x80), ([0xCB, 0xC1], .setR 0 .c),
   ([0xCB, 0xCE], .setAtHl 1), ([0xDD, 0xCB, 0xFF, 0xD6], .setIxd 2 0xFF), ([0xFD, 0xCB, 0x5A, 0xDE], .setIyd 3 0x5A),
   ([0xED, 0x6F], .rld), ([0xED, 0x67], .rrd)]

theorem test_decode_bit_digit : Decoded wordsBitDigit := by
  rfl

/-- Words of 46_control.md. -/
def wordsControl : List (List Byte × Instr) :=
  [([0xC3, 0x34, 0x12], .jpNn 0x1234), ([0xC2, 0xFF, 0x80], .jpCcNn .nz 0x80FF), ([0x18, 0xFE], .jrE 0xFE),
   ([0x20, 0x05], .jrCcE .nz 0x05), ([0x10, 0x80], .djnzE 0x80), ([0xE9], .jpHl), ([0xDD, 0xE9], .jpIx),
   ([0xFD, 0xE9], .jpIy), ([0xCD, 0x01, 0xC0], .callNn 0xC001), ([0xCC, 0x10, 0x70], .callCcNn .z 0x7010),
   ([0xC9], .ret), ([0xD0], .retCc .nc), ([0xED, 0x4D], .reti), ([0xED, 0x45], .retn), ([0xEF], .rst 0x28)]

theorem test_decode_control : Decoded wordsControl := by
  rfl

/-- Words of 47_io_cpu_control.md. -/
def wordsIoCpu : List (List Byte × Instr) :=
  [([0xDB, 0x5A], .inAN 0x5A), ([0xED, 0x50], .inRC .d), ([0xD3, 0x3C], .outNA 0x3C), ([0xED, 0x59], .outCR .e),
   ([0xED, 0xA2], .ini), ([0xED, 0xB2], .inir), ([0xED, 0xAA], .ind), ([0xED, 0xBA], .indr), ([0xED, 0xA3], .outi),
   ([0xED, 0xB3], .otir), ([0xED, 0xAB], .outd), ([0xED, 0xBB], .otdr), ([0x00], .nop), ([0x76], .halt), ([0xF3], .di),
   ([0xFB], .ei), ([0xED, 0x46], .im0), ([0xED, 0x56], .im1), ([0xED, 0x5E], .im2)]

theorem test_decode_io_cpu : Decoded wordsIoCpu := by
  rfl
/-- Encodings outside the admitted set, with the bytes the fault reports (spec/95_test_vectors.md, 60_exceptions.md). -/
theorem test_rejected_words :
    [[0xED, 0x00], [0xDD, 0x00], [0xDD, 0xCB, 0x01, 0x00], [0xED, 0x70]].map (fun word =>
      match decodeBytes word with
      | .ok _ => []
      | .error e => e.bytes) = ([[0xED, 0x00], [0xDD, 0x00], [0xDD, 0xCB, 0x01, 0x00], [0xED, 0x70]] : List (List Byte)) := by
  rfl

/-- The refresh counts of R332: one for an unprefixed opcode, two after a prefix, two for an index-CB form. -/
theorem test_refresh_counts : [Instr.nop, .rlR .c, .ldir, .ldIxNn 0x1234, .rlcIxd 0x02].map Instr.refreshes = [1, 2, 2, 2, 2] := by
  decide

/-- The numbers of spec/opcode_table.json: a row's first byte is the most significant (log 5). -/
theorem test_table_words :
    [decodeTableWord 8 0x78, decodeTableWord 16 0x06AB, decodeTableWord 24 0xC33412, decodeTableWord 32 0xDDCB0516,
      decodeTableWord 16 0xED70] =
      [some (.ldRR .a .b), some (.ldRN .b 0xAB), some (.jpNn 0x1234), some (.rlIxd 0x05), none] := by
  rfl

/-! ## Single steps (spec/95_test_vectors.md, Part 2) -/

/-- The reset state with registers, bytes of memory, and code at address 0. -/
def start (regs : List (RegName × Byte)) (bytes : List (Word × Byte)) (code : List Byte) : State :=
  ((State.reset.setRegs regs).setBytes bytes).placeBytes 0 code

/-- The step answers a next state with these registers and bytes, this `pc`, R and cost. -/
def ends (s : State) (regs : List (RegName × Byte)) (bytes : List (Word × Byte)) (pc : Word) (r : Byte) (cost : Nat) : Bool :=
  match step s with
  | .next t =>
    regs.all (fun w => t.reg w.1 == w.2) && bytes.all (fun w => t.read w.1 == w.2) && t.pc == pc && t.rReg == r &&
      t.cost == cost
  | .fault _ => false
  | .refused _ => false

/-- The step answers a next state of which `p` holds. -/
def endsWith (s : State) (p : State → Bool) : Bool :=
  match step s with
  | .next t => p t
  | .fault _ => false
  | .refused _ => false

/-! ### 40_load8.md -/

theorem test_ld_b_c : ends (start [(.c, 0x5A)] [] [0x41]) [(.b, 0x5A)] [] 0x0001 0x01 4 = true := by decide

theorem test_ld_a_ixd : ends { start [] [(0x7000, 0xA5)] [0xDD, 0x7E, 0xFE] with ix := 0x7002 }
    [(.a, 0xA5)] [] 0x0003 0x02 19 = true := by decide

theorem test_ld_iyd_n : ends { start [] [] [0xFD, 0x36, 0x05, 0x77] with iy := 0x7000 }
    [] [(0x7005, 0x77)] 0x0004 0x02 19 = true := by decide

theorem test_ld_a_i : ends { start [(.f, 0x01)] [] [0xED, 0x57] with iReg := 0x80, iff2 := true }
    [(.a, 0x80), (.f, 0x85)] [] 0x0002 0x02 9 = true := by decide

theorem test_ld_a_r : ends { start [] [] [0xED, 0x5F] with rReg := 0x7F }
    [(.a, 0x01), (.f, 0x00)] [] 0x0002 0x01 9 = true := by decide

theorem test_ld_a_nn : ends (start [] [(0x1234, 0x42)] [0x3A, 0x34, 0x12]) [(.a, 0x42)] [] 0x0003 0x01 13 = true := by
  decide

/-! ### 41_load16_stack.md -/

theorem test_ld_hl_at_nn : ends (start [] [(0x7000, 0x34), (0x7001, 0x12)] [0x2A, 0x00, 0x70])
    [(.h, 0x12), (.l, 0x34)] [] 0x0003 0x01 16 = true := by decide

theorem test_ld_at_nn_sp : ends { start [] [] [0xED, 0x73, 0x00, 0x70] with sp := 0xBEEF }
    [] [(0x7000, 0xEF), (0x7001, 0xBE)] 0x0004 0x02 20 = true := by decide

theorem test_push_af : ends { start [(.a, 0x12), (.f, 0xD7)] [] [0xF5] with sp := 0x8000 }
    [] [(0x7FFF, 0x12), (0x7FFE, 0xD7)] 0x0001 0x01 11 = true := by decide

/-- The popped word is read across the top of memory: its high byte is the opcode at 0x0000. -/
theorem test_pop_bc_across_the_wrap : ends { start [] [(0xFFFF, 0x34)] [0xC1] with sp := 0xFFFF }
    [(.b, 0xC1), (.c, 0x34)] [] 0x0001 0x01 10 = true := by decide

theorem test_push_hl_at_zero : ends (start [(.h, 0xAB), (.l, 0xCD)] [] [0xE5])
    [] [(0xFFFF, 0xAB), (0xFFFE, 0xCD)] 0x0001 0x01 11 = true := by decide

/-! ### 42_exchange_block.md -/

theorem test_ex_de_hl : ends (start [(.d, 0x11), (.e, 0x11), (.h, 0x22), (.l, 0x22)] [] [0xEB])
    [(.d, 0x22), (.e, 0x22), (.h, 0x11), (.l, 0x11)] [] 0x0001 0x01 4 = true := by decide

theorem test_ex_sp_hl :
    ends { start [(.h, 0x12), (.l, 0x34)] [(0x7000, 0x78), (0x7001, 0x56)] [0xE3] with sp := 0x7000 }
      [(.h, 0x56), (.l, 0x78)] [(0x7000, 0x34), (0x7001, 0x12)] 0x0001 0x01 19 = true := by decide

theorem test_ldi_last :
    ends (start [(.h, 0x70), (.d, 0x71), (.c, 0x01), (.a, 0x10), (.f, 0xC1)] [(0x7000, 0x22)] [0xED, 0xA0])
      [(.h, 0x70), (.l, 0x01), (.d, 0x71), (.e, 0x01), (.b, 0x00), (.c, 0x00), (.f, 0xE1)] [(0x7100, 0x22)] 0x0002 0x02 16 =
      true := by decide

theorem test_ldir_repeats :
    ends (start [(.h, 0x70), (.d, 0x71), (.c, 0x02)] [(0x7000, 0x08)] [0xED, 0xB0])
      [(.h, 0x70), (.l, 0x01), (.d, 0x71), (.e, 0x01), (.b, 0x00), (.c, 0x01), (.f, 0x0C)] [(0x7100, 0x08)] 0x0000 0x02 21 =
      true := by decide

theorem test_cpi_match :
    ends (start [(.h, 0x70), (.c, 0x02), (.a, 0x3C), (.f, 0x01)] [(0x7000, 0x3C)] [0xED, 0xA1])
      [(.h, 0x70), (.l, 0x01), (.b, 0x00), (.c, 0x01), (.f, 0x47)] [] 0x0002 0x02 16 = true := by decide

theorem test_cpir_stops_at_zero :
    ends (start [(.h, 0x70), (.c, 0x01), (.a, 0x10)] [(0x7000, 0x01)] [0xED, 0xB1])
      [(.h, 0x70), (.l, 0x01), (.b, 0x00), (.c, 0x00), (.f, 0x3A)] [] 0x0002 0x02 16 = true := by decide

/-! ### 43_alu8.md -/

theorem test_add_overflow : ends (start [(.a, 0x7F), (.b, 0x01)] [] [0x80])
    [(.a, 0x80), (.f, 0x94)] [] 0x0001 0x01 4 = true := by decide

theorem test_add_wrap : ends (start [(.a, 0xFF)] [] [0xC6, 0x01]) [(.a, 0x00), (.f, 0x51)] [] 0x0002 0x01 7 = true := by
  decide

theorem test_adc : ends (start [(.a, 0x0E), (.b, 0x01), (.f, 0x01)] [] [0x88])
    [(.a, 0x10), (.f, 0x10)] [] 0x0001 0x01 4 = true := by decide

theorem test_sub_overflow : ends (start [(.a, 0x80)] [] [0xD6, 0x01])
    [(.a, 0x7F), (.f, 0x3E)] [] 0x0002 0x01 7 = true := by decide

theorem test_sbc_borrow : ends (start [(.f, 0x01)] [] [0x98]) [(.a, 0xFF), (.f, 0xBB)] [] 0x0001 0x01 4 = true := by
  decide

/-- Bits 5 and 3 come from the result 0, not from the operand. -/
theorem test_cp_equal : ends (start [(.a, 0x28)] [] [0xFE, 0x28]) [(.a, 0x28), (.f, 0x42)] [] 0x0002 0x01 7 = true := by
  decide

theorem test_cp_less : ends (start [(.a, 0x28)] [] [0xFE, 0x30]) [(.a, 0x28), (.f, 0xAB)] [] 0x0002 0x01 7 = true := by
  decide

theorem test_and : ends (start [(.a, 0x3C)] [] [0xE6, 0x0F]) [(.a, 0x0C), (.f, 0x1C)] [] 0x0002 0x01 7 = true := by decide

theorem test_xor_a : ends (start [(.a, 0x55), (.f, 0xFF)] [] [0xAF]) [(.a, 0x00), (.f, 0x44)] [] 0x0001 0x01 4 = true := by
  decide

theorem test_or_at_hl : ends (start [(.a, 0x01), (.h, 0x70)] [(0x7000, 0x80)] [0xB6])
    [(.a, 0x81), (.f, 0x84)] [] 0x0001 0x01 7 = true := by decide

theorem test_inc_a : ends (start [(.a, 0x7F), (.f, 0x01)] [] [0x3C]) [(.a, 0x80), (.f, 0x95)] [] 0x0001 0x01 4 = true := by
  decide

theorem test_dec_b : ends (start [] [] [0x05]) [(.b, 0xFF), (.f, 0xBA)] [] 0x0001 0x01 4 = true := by decide

theorem test_inc_ixd : ends { start [] [(0x7001, 0xFF)] [0xDD, 0x34, 0x01] with ix := 0x7000 }
    [(.f, 0x50)] [(0x7001, 0x00)] 0x0003 0x02 23 = true := by decide

theorem test_daa_after_add : ends (start [(.a, 0x3C)] [] [0x27]) [(.a, 0x42), (.f, 0x14)] [] 0x0001 0x01 4 = true := by
  decide

theorem test_daa_after_sub : ends (start [(.a, 0x0F), (.f, 0x12)] [] [0x27])
    [(.a, 0x09), (.f, 0x0E)] [] 0x0001 0x01 4 = true := by decide

theorem test_cpl : ends (start [(.a, 0x5A)] [] [0x2F]) [(.a, 0xA5), (.f, 0x32)] [] 0x0001 0x01 4 = true := by decide

theorem test_neg_of_minimum : ends (start [(.a, 0x80)] [] [0xED, 0x44])
    [(.a, 0x80), (.f, 0x87)] [] 0x0002 0x02 8 = true := by decide

theorem test_ccf : ends (start [(.a, 0x28), (.f, 0x01)] [] [0x3F]) [(.a, 0x28), (.f, 0x38)] [] 0x0001 0x01 4 = true := by
  decide

theorem test_scf : ends (start [(.f, 0xC4)] [] [0x37]) [(.a, 0x00), (.f, 0xC5)] [] 0x0001 0x01 4 = true := by decide

/-! ### 44_alu16.md -/

theorem test_add_hl_de : ends (start [(.h, 0x80), (.d, 0x80), (.f, 0xC6)] [] [0x19])
    [(.h, 0x00), (.l, 0x00), (.f, 0xC7)] [] 0x0001 0x01 11 = true := by decide

theorem test_add_hl_bc_half_carry : ends (start [(.h, 0x0F), (.l, 0xFF), (.c, 0x01)] [] [0x09])
    [(.h, 0x10), (.l, 0x00), (.f, 0x10)] [] 0x0001 0x01 11 = true := by decide

theorem test_adc_hl_de : ends (start [(.h, 0x7F), (.l, 0xFF), (.f, 0x01)] [] [0xED, 0x5A])
    [(.h, 0x80), (.l, 0x00), (.f, 0x94)] [] 0x0002 0x02 15 = true := by decide

theorem test_sbc_hl_bc_zero : ends (start [(.h, 0x12), (.l, 0x34), (.b, 0x12), (.c, 0x34)] [] [0xED, 0x42])
    [(.h, 0x00), (.l, 0x00), (.f, 0x42)] [] 0x0002 0x02 15 = true := by decide

theorem test_sbc_hl_bc_borrow : ends (start [(.c, 0x01)] [] [0xED, 0x42])
    [(.h, 0xFF), (.l, 0xFF), (.f, 0xBB)] [] 0x0002 0x02 15 = true := by decide

theorem test_inc_bc_wrap : ends (start [(.b, 0xFF), (.c, 0xFF)] [] [0x03])
    [(.b, 0x00), (.c, 0x00), (.f, 0x00)] [] 0x0001 0x01 6 = true := by decide

theorem test_dec_sp_wrap : endsWith (start [] [] [0x3B]) (fun t => t.sp == 0xFFFF && t.pc == 0x0001 && t.cost == 6) = true := by
  decide

theorem test_add_ix_ix : endsWith { start [] [] [0xDD, 0x29] with ix := 0x4000 }
    (fun t => t.ix == 0x8000 && t.reg .f == 0x00 && t.rReg == 0x02 && t.cost == 15) = true := by decide

/-! ### 45_rotate_bit.md -/

theorem test_rlca : ends (start [(.a, 0x81)] [] [0x07]) [(.a, 0x03), (.f, 0x01)] [] 0x0001 0x01 4 = true := by decide

theorem test_rra : ends (start [(.a, 0x01)] [] [0x1F]) [(.a, 0x00), (.f, 0x01)] [] 0x0001 0x01 4 = true := by decide

theorem test_rl_c : ends (start [(.c, 0x80)] [] [0xCB, 0x11]) [(.c, 0x00), (.f, 0x45)] [] 0x0002 0x02 8 = true := by decide

theorem test_sra_b : ends (start [(.b, 0x81)] [] [0xCB, 0x28]) [(.b, 0xC0), (.f, 0x85)] [] 0x0002 0x02 8 = true := by
  decide

theorem test_sll_a : ends (start [(.a, 0x80)] [] [0xCB, 0x37]) [(.a, 0x01), (.f, 0x01)] [] 0x0002 0x02 8 = true := by
  decide

theorem test_srl_at_hl : ends (start [(.h, 0x70)] [(0x7000, 0x01)] [0xCB, 0x3E])
    [(.f, 0x45)] [(0x7000, 0x00)] 0x0002 0x02 15 = true := by decide

theorem test_rlc_ixd : ends { start [] [(0x7002, 0x80)] [0xDD, 0xCB, 0x02, 0x06] with ix := 0x7000 }
    [(.f, 0x01)] [(0x7002, 0x01)] 0x0004 0x02 23 = true := by decide

theorem test_bit_7_h : ends (start [(.h, 0x80), (.f, 0x01)] [] [0xCB, 0x7C]) [(.f, 0x91)] [] 0x0002 0x02 8 = true := by
  decide

theorem test_bit_0_a : ends (start [(.a, 0x28)] [] [0xCB, 0x47]) [(.f, 0x7C)] [] 0x0002 0x02 8 = true := by decide

theorem test_res_0_iyd : ends { start [(.f, 0xD7)] [(0x7000, 0xFF)] [0xFD, 0xCB, 0xFF, 0x86] with iy := 0x7001 }
    [(.f, 0xD7)] [(0x7000, 0xFE)] 0x0004 0x02 23 = true := by decide

theorem test_set_7_e : ends (start [] [] [0xCB, 0xFB]) [(.e, 0x80)] [] 0x0002 0x02 8 = true := by decide

theorem test_rld : ends (start [(.a, 0x12), (.h, 0x70)] [(0x7000, 0x34)] [0xED, 0x6F])
    [(.a, 0x13), (.f, 0x00)] [(0x7000, 0x42)] 0x0002 0x02 18 = true := by decide

theorem test_rrd : ends (start [(.a, 0x12), (.h, 0x70)] [(0x7000, 0x34)] [0xED, 0x67])
    [(.a, 0x14), (.f, 0x04)] [(0x7000, 0x23)] 0x0002 0x02 18 = true := by decide

/-! ### 46_control.md -/

theorem test_jp_nn : ends (start [] [] [0xC3, 0x00, 0x10]) [] [] 0x1000 0x01 10 = true := by decide

theorem test_jp_nz_not_taken : ends (start [(.f, 0x40)] [] [0xC2, 0x00, 0x10]) [] [] 0x0003 0x01 10 = true := by decide

theorem test_jr_to_itself : ends (start [] [] [0x18, 0xFE]) [] [] 0x0000 0x01 12 = true := by decide

theorem test_jr_c_taken : ends (start [(.f, 0x01)] [] [0x38, 0x05]) [] [] 0x0007 0x01 12 = true := by decide

theorem test_djnz_falls_through : ends (start [(.b, 0x01)] [] [0x10, 0xFE]) [(.b, 0x00)] [] 0x0002 0x01 8 = true := by
  decide

theorem test_call_nn : ends { start [] [] [0xCD, 0x00, 0x10] with sp := 0x8000 }
    [] [(0x7FFF, 0x00), (0x7FFE, 0x03)] 0x1000 0x01 17 = true := by decide

theorem test_call_z_not_taken : ends { start [] [] [0xCC, 0x00, 0x10] with sp := 0x8000 } [] [] 0x0003 0x01 10 = true := by
  decide

theorem test_ret_pe_taken : ends { start [(.f, 0x04)] [(0x7FFE, 0x34), (0x7FFF, 0x12)] [0xE8] with sp := 0x7FFE }
    [] [] 0x1234 0x01 11 = true := by decide

theorem test_rst_38 : ends { start [] [] [0xFF] with sp := 0x8000 }
    [] [(0x7FFF, 0x00), (0x7FFE, 0x01)] 0x0038 0x01 11 = true := by decide

theorem test_jp_iy : ends { start [] [] [0xFD, 0xE9] with iy := 0xC000 } [] [] 0xC000 0x02 8 = true := by decide

theorem test_retn :
    endsWith { start [] [(0x7FFE, 0x00), (0x7FFF, 0x20)] [0xED, 0x45] with sp := 0x7FFE, iff2 := true }
      (fun t => t.pc == 0x2000 && t.sp == 0x8000 && t.iff1 && t.iff2 && t.rReg == 0x02 && t.cost == 14) = true := by decide

/-! ### 47_io_cpu_control.md -/

theorem test_in_a_unmapped : ends (start [(.a, 0x12), (.f, 0xD7)] [] [0xDB, 0x00])
    [(.a, 0xFF), (.f, 0xD7)] [] 0x0002 0x01 11 = true := by decide

theorem test_in_b_c_unmapped : ends (start [(.f, 0x01)] [] [0xED, 0x40])
    [(.b, 0xFF), (.f, 0xAD)] [] 0x0002 0x02 12 = true := by decide

theorem test_out_n_a_sound : endsWith (start [(.a, 0x9F)] [] [0xD3, 0xFF])
    (fun t => t.events == [.sound 0x9F] && t.pc == 0x0002 && t.cost == 11) = true := by decide

theorem test_ini_unmapped : ends (start [(.b, 0x01), (.c, 0x10), (.h, 0x70)] [] [0xED, 0xA2])
    [(.b, 0x00), (.h, 0x70), (.l, 0x01), (.f, 0x57)] [(0x7000, 0xFF)] 0x0002 0x02 16 = true := by decide

/-- The port address holds B after the decrement: 0x00FF. -/
theorem test_outi_sound : endsWith (start [(.b, 0x01), (.c, 0xFF), (.h, 0x70)] [(0x7000, 0x81)] [0xED, 0xA3])
    (fun t => t.events == [.sound 0x81] && t.hl == 0x7001 && t.reg .b == 0x00 && t.reg .f == 0x42 && t.cost == 16) = true := by
  decide

theorem test_di : endsWith { start [] [] [0xF3] with iff1 := true, iff2 := true } (fun t => !t.iff1 && !t.iff2) = true := by
  decide

theorem test_ei : endsWith (start [] [] [0xFB]) (fun t => t.iff1 && t.iff2 && t.cost == 4) = true := by decide

theorem test_im_1 : endsWith (start [] [] [0xED, 0x56]) (fun t => t.im == .im1 && t.rReg == 0x02 && t.cost == 8) = true := by
  decide

theorem test_halt : endsWith (start [] [] [0x76]) (fun t => t.halted && t.pc == 0x0001 && t.cost == 4) = true := by decide

/-! ### 60_exceptions.md -/

/-- The fault record holds the address and the bytes; nothing else changes, R included. -/
theorem test_unimplemented_opcode :
    endsWith { ((State.reset.write 0x0100 0xED).write 0x0101 0x70) with pc := 0x0100, rReg := 0x05 }
      (fun t => t.fault == some (.unimplementedOpcode 0x0100 [0xED, 0x70]) && t.pc == 0x0100 && t.rReg == 0x05) = true := by
  decide

theorem test_unimplemented_index_cb :
    endsWith { (State.reset.placeBytes 0x0100 [0xDD, 0xCB, 0x01, 0x00]) with pc := 0x0100, rReg := 0x05 }
      (fun t => t.fault == some (.unimplementedOpcode 0x0100 [0xDD, 0xCB, 0x01, 0x00]) && t.pc == 0x0100) = true := by decide

theorem test_stopped_after_a_fault :
    step { State.reset with fault := some (.unimplementedOpcode 0x0100 [0xED, 0x00]) } =
      .fault (.stopped (.unimplementedOpcode 0x0100 [0xED, 0x00])) := by rfl

/-- The state of the exception rows: both flip-flops set, `INT` driven, SP = 0x8000. -/
def requested (im : IntMode) : State :=
  { State.reset with sp := 0x8000, iff1 := true, iff2 := true, im := im, host := { HostInputs.idle with int := true } }

theorem test_int_in_mode_2_faults :
    endsWith (requested .im2) (fun t =>
      t.fault == some (.unsupportedInterruptMode .im2 0x0000) && t.sp == 0x8000 && t.iff1 && t.iff2) = true := by decide

theorem test_nmi_before_int :
    endsWith { requested .im0 with nmiPending := true } (fun t =>
      t.pc == 0x0066 && !t.iff1 && t.iff2 && t.sp == 0x7FFE && t.read 0x7FFF == 0x00 && t.read 0x7FFE == 0x00 &&
        t.rReg == 0x01 && t.cost == 11 && t.fault == none) = true := by decide

theorem test_nmi_while_halted :
    endsWith { State.reset with halted := true, pc := 0x0201, sp := 0x8000, nmiPending := true } (fun t =>
      !t.halted && t.read 0x7FFF == 0x02 && t.read 0x7FFE == 0x01 && t.pc == 0x0066 && t.cost == 11) = true := by decide

theorem test_int_masked :
    endsWith { requested .im1 with iff1 := false } (fun t => t.pc == 0x0001 && t.cost == 4) = true := by decide

theorem test_mode_1_acceptance :
    endsWith { requested .im1 with pc := 0x1234, sp := 0x7000 } (fun t =>
      t.read 0x6FFF == 0x12 && t.read 0x6FFE == 0x34 && t.sp == 0x6FFE && t.pc == 0x0038 && !t.iff1 && !t.iff2 &&
        t.rReg == 0x01 && t.cost == 13) = true := by decide

/-! ### 48_vdp.md -/

/-- The VDP at reset after control bytes. -/
def controlled (bytes : List Byte) : Vdp := bytes.foldl Vdp.controlWrite Vdp.reset

theorem test_register_0_masked :
    (controlled [0xFF, 0x80]).vr.r0 = 0x03 ∧ (controlled [0xFF, 0x80]).latch = false ∧
      (controlled [0xFF, 0x80]).vaddr = 0x00FF := by decide

theorem test_registers_1_and_2_masked :
    (controlled [0xFF, 0xF9]).vr.r1 = 0xFB ∧ (controlled [0xFF, 0x8A]).vr.r2 = 0x0F := by decide

/-- Three data writes from 0x3FFF: the address wraps. -/
theorem test_data_writes_wrap :
    (let v := ((controlled [0xFF, 0x7F]).dataWrite 0x01).dataWrite 0x02 |>.dataWrite 0x03
     (Vram.read v.vram 0x3FFF, Vram.read v.vram 0x0000, Vram.read v.vram 0x0001, v.vaddr, v.readAhead)) =
      (0x01, 0x02, 0x03, 0x0002, 0x03) := by decide

theorem test_read_set_up_wraps :
    (let v := ([0xFF, 0x3F] : List Byte).foldl Vdp.controlWrite { Vdp.reset with vram := [(0x3FFF, 0x5C)] }
     (v.readAhead, v.vaddr)) = (0x5C, 0x0000) := by decide

/-- The sequence of R815: the byte written comes back. -/
theorem test_vram_round_trip :
    (let v := ([0x34, 0x12] : List Byte).foldl Vdp.controlWrite ((controlled [0x34, 0x52]).dataWrite 0xA5)
     (v.readAhead, v.dataRead.vaddr, v.dataRead.latch)) = (0xA5, 0x1236, false) := by decide

theorem test_status_read_clears_the_flags :
    (State.portIn { State.reset with vdp := { Vdp.reset with status := 0xE7, latch := true } } 0x00A1).2.vdp.status = 0x07 := by
  decide

theorem test_controller_read :
    (State.portIn { State.reset with host := ⟨false, ⟨0x05, 0, 0, 0⟩⟩ } 0x00FC).1 = 0x7A := by decide

theorem test_mode_g2 : VdpRegs.displayMode ⟨0x02, 0, 0, 0, 0, 0, 0, 0⟩ = .g2 := by decide

/-- A tick on line 0 with M1 set and a terminator: no background, `modeFault`. -/
theorem test_mode_fault :
    (let t := { State.reset with vdp := { Vdp.reset with vr := ⟨0, 0x10, 0, 0, 0, 0, 0, 0⟩, vram := [(0, 208)] } }.tick
     (t.vdp.line, t.vdp.modeFault, t.vdp.vr.displayMode, t.vdp.fb)) = (1, true, .other 4, []) := by decide

/-- Five sprites with Y = 0 and a terminator: overflow with the fifth's index (P1.5). -/
theorem test_sprite_overflow :
    (Vdp.sprites { Vdp.reset with vram := [(20, 208)] } 1 ⟨[], []⟩).1.status = 0x44 := by decide

/-- The vblank line sets VB and requests an NMI where IE is set and VB was clear, once (P1.4). -/
theorem test_vblank :
    (let v := { Vdp.reset with line := 191, vr := ⟨0, 0x20, 0, 0, 0, 0, 0, 0⟩ }
     let t := { State.reset with vdp := v }.tick
     let u := { State.reset with vdp := { v with status := 0x80 } }.tick
     (t.vdp.line, t.vdp.status, t.nmiPending, u.vdp.status, u.nmiPending)) = (192, 0x80, true, 0x80, false) := by decide

/-! ### 70_reset_and_hazards.md -/

theorem test_construction :
    (State.construct [0x3E, 0x01, 0x76] []).map (fun s => (s.read 0x0000, s.read 0x0001, s.read 0x0002, s.read 0x0003, s.pc)) =
      some (0x3E, 0x01, 0x76, 0x00, 0x0000) := by decide

theorem test_reset_clears_the_window :
    (let s := (((State.reset.write 0x6000 0x11).write 0x7FFF 0x22).write 0x8000 0x33).write 0x5FFF 0x44
     (s.resetFrom.read 0x6000, s.resetFrom.read 0x7FFF, s.resetFrom.read 0x8000, s.resetFrom.read 0x5FFF)) =
      (0x00, 0x00, 0x33, 0x44) := by decide

theorem test_halt_idles :
    endsWith { State.reset with halted := true } (fun t => t.cost == 0 && t.periodCounter == 228 && t.vdp.line == 0) = true := by
  decide

/-! ### Rendering: the examples of 48_vdp.md R840, R841, R844, R847 -/

/-- R840's Graphics I set-up. -/
def g1Example : Vdp :=
  { Vdp.reset with
    vr := ⟨0, 0, 0x00, 0x80, 0x01, 0, 0, 0x06⟩
    vram := [(0x0000, 0x09), (0x0849, 0xF0), (0x2001, 0x40)] }

theorem test_g1_column :
    (let fb := (g1Example.drawColumn g1Addrs 1 ⟨[], []⟩ 0).fb
     (FrameBuffer.pixel fb 0 1, FrameBuffer.pixel fb 3 1, FrameBuffer.pixel fb 4 1, FrameBuffer.pixel fb 7 1)) =
      ((84, 85, 237, 255), (84, 85, 237, 255), (212, 82, 77, 255), (212, 82, 77, 255)) := by decide

/-- R841's Graphics II set-up. -/
def g2Example : Vdp :=
  { Vdp.reset with
    vr := ⟨0x02, 0, 0x0E, 0xFF, 0x03, 0, 0, 0x01⟩
    vram := [(0x082E, 0x81), (0x282E, 0xF0), (0x3902, 0x05)] }

theorem test_g2_column :
    (let fb := (g2Example.drawColumn g2Addrs 70 ⟨[], []⟩ 2).fb
     (FrameBuffer.pixel fb 16 70, FrameBuffer.pixel fb 17 70, FrameBuffer.pixel fb 22 70, FrameBuffer.pixel fb 23 70)) =
      ((255, 255, 255, 255), (0, 0, 0, 255), (0, 0, 0, 255), (255, 255, 255, 255)) := by decide

/-- R847's priority and transparency set-up: three sprites in Graphics I. -/
def spriteExample : Vdp :=
  { Vdp.reset with
    vr := ⟨0, 0, 0, 0, 0, 0x7E, 0x07, 0x01⟩
    vram := [(0x3808, 0xFF), (0x3F01, 10), (0x3F02, 1), (0x3F05, 14), (0x3F06, 1), (0x3F07, 0x06), (0x3F09, 12), (0x3F0A, 1),
      (0x3F0B, 0x09), (0x3F0C, 208)] }

theorem test_sprite_priority :
    (let out := spriteExample.sprites 1 ⟨[], []⟩
     (FrameBuffer.pixel out.2.fb 11 1, FrameBuffer.pixel out.2.fb 12 1, FrameBuffer.pixel out.2.fb 14 1,
       FrameBuffer.pixel out.2.fb 21 1)) =
      ((0, 0, 0, 255), (255, 121, 120, 255), (212, 82, 77, 255), (212, 82, 77, 255)) := by decide

theorem test_sprite_status :
    (let out := spriteExample.sprites 1 ⟨[], []⟩
     (out.1.status, out.1.collisionAcc)) = (0x03, true) := by decide

/-- R844: Y = 9 shows on lines 10 to 16; Y = 0xFC on lines 0 to 3. -/
theorem test_sprite_window :
    [9, 10, 16, 17].map (fun L => g1Example.vr.spriteVisible 9 L) = [false, true, true, false] ∧
      [0, 3, 4].map (fun L => g1Example.vr.spriteVisible 0xFC L) = [true, true, false] := by decide

/-- R847's magnified and early-clock columns. -/
theorem test_sprite_columns :
    spriteColumns 0x00C0 8 1 50 = [50, 51, 52, 53] ∧ spriteColumns 0x003C 8 1 50 = [54, 55, 56, 57, 58, 59, 60, 61] ∧
      spriteColumns 0x00FF 8 0 (spriteX 36 0x8C) = [4, 5, 6, 7, 8, 9, 10, 11] ∧ spriteColumns 0x00FF 8 0 252 = [252, 253, 254, 255] := by
  decide

/-- R847's 16 by 16 set-up: entry 0 and the two quadrants of name 4. -/
def largeSpriteExample : Vdp :=
  { Vdp.reset with
    vr := ⟨0, 0x02, 0, 0, 0, 0x7E, 0x07, 0x01⟩
    vram := [(0x3820, 0x80), (0x3830, 0x01), (0x3F00, 30), (0x3F01, 200), (0x3F02, 7), (0x3F03, 0x0A), (0x3F04, 208)] }

/-- R847's 16 by 16 row: line 31 shows colour 10 at x = 200 and x = 215. -/
theorem test_large_sprite_row : largeSpriteExample.spriteRow 31 0 = .ok ⟨[200, 215], 10⟩ := by rfl

/-! ## Witnesses: concrete states and operands that meet the hypotheses of the statements -/

theorem witness_DaaCorrectsDecimal :
    (15 : Nat) < 100 ∧ (99 : Nat) < 100 ∧ (daa8 (add8 0x15 0x99 false).1 (add8 0x15 0x99 false).2).1 = 0x14 := by decide

/-- A register write keeps the other bank's register of the same name. -/
theorem witness_RegisterResolution :
    ¬(true = State.reset.selector .b ∧ RegName.b = RegName.b) ∧ (State.reset.setReg .b 0x12).physical true .b = 0x00 := by decide

/-- A word stored at the top of memory, and an address outside it. -/
theorem witness_WordsAreLittleEndian :
    (0x0001 : Word) ≠ 0xFFFF ∧ (0x0001 : Word) ≠ 0xFFFF + 1 ∧ (State.reset.write16 0xFFFF 0x1234).read 0x0000 = 0x12 := by decide

/-- The port numbers of each clause: VDP status and data, controller, sound, the two mode ports, no device. -/
theorem witness_PortDispatch :
    (Bits.lo 0x12BF &&& 0xE0 = 0xA0 ∧ (Bits.lo 0x12BF).getLsbD 0 = true) ∧
    (Bits.lo 0x12A0 &&& 0xE0 = 0xA0 ∧ (Bits.lo 0x12A0).getLsbD 0 = false) ∧ Bits.lo 0x12FF &&& 0xE0 = 0xE0 ∧
    Bits.lo 0x129F &&& 0xE0 = 0x80 ∧ Bits.lo 0x12C0 &&& 0xE0 = 0xC0 ∧
    (Bits.lo 0x127F &&& 0xE0 ≠ 0xA0 ∧ Bits.lo 0x127F &&& 0xE0 ≠ 0xE0) ∧
    Bits.lo 0x127F &&& 0xE0 ∉ ([0xA0, 0x80, 0xC0, 0xE0] : List Byte) := by decide

/-- A toggle: the data stays, the name resolves to the other bank. -/
theorem witness_BankSelectors :
    (∃ t, exec .exAfAf (start [(.a, 0x12)] [] []) = .next t ∧ t.reg .a = 0x00 ∧ t.physical false .a = 0x12) ∧
    ∃ t, exec .exx (start [(.b, 0x12)] [] []) = .next t ∧ t.reg .b = 0x00 ∧ t.physical false .b = 0x12 :=
  ⟨⟨_, rfl, by decide, by decide⟩, _, rfl, by decide, by decide⟩

/-- Bank 1's HL is hidden from `LD B,(HL)` while `mainSel` chooses bank 0. -/
theorem witness_HiddenBankIsIsolated :
    true ≠ State.reset.selector .h ∧ ∃ t, exec (.ldRAtHl .b) State.reset = .next t :=
  ⟨by decide, _, rfl⟩

/-- Each piece of control state changes in some run of an instruction. -/
theorem witness_ControlStateWriters :
    (∃ t, exec .ldIA (start [(.a, 0x12)] [] []) = .next t ∧ t.iReg ≠ (start [(.a, 0x12)] [] []).iReg) ∧
    (∃ t, exec .ldRA (start [(.a, 0x12)] [] []) = .next t ∧ t.rReg ≠ (start [(.a, 0x12)] [] []).rReg) ∧
    (∃ t, exec .im2 State.reset = .next t ∧ t.im ≠ State.reset.im) ∧
    (∃ t, exec .halt State.reset = .next t ∧ t.halted ≠ State.reset.halted) ∧
    (∃ t, exec .ei State.reset = .next t ∧ t.iff1 ≠ State.reset.iff1 ∧ t.iff2 ≠ State.reset.iff2) ∧
    (∃ t, exec (.outNA 0xC0) State.reset = .next t ∧ t.joyMode ≠ State.reset.joyMode) :=
  ⟨⟨_, rfl, by decide⟩, ⟨_, rfl, by decide⟩, ⟨_, rfl, by decide⟩, ⟨_, rfl, by decide⟩, ⟨_, rfl, by decide⟩,
    ⟨_, rfl, by decide⟩⟩

theorem witness_DecodeOfEncode :
    (Instr.jrCcE .c 0xFC).wellFormed = true ∧ encode (.jrCcE .c 0xFC) = [0x38, 0xFC] ∧ (Instr.rst 0x38).wellFormed = true ∧
      encode (.rst 0x38) = [0xFF] := by decide

theorem witness_EncodeOfDecode : decode 0xFD 0xCB 0xFF 0x86 = .ok (.resIyd 0 0xFF) := by rfl

theorem witness_RejectedEncodings :
    (∃ e, decode 0xED 0x70 0x12 0x34 = .error e) ∧ (∃ e, decode 0xFD 0x00 0x12 0x34 = .error e) ∧
      (∃ e, decode 0xDD 0xCB 0x01 0x00 = .error e) := ⟨⟨_, rfl⟩, ⟨_, rfl⟩, ⟨_, rfl⟩⟩

/-- `LD BC,5678h` at the top of memory: its operand bytes wrap to 0x0000. -/
def atTheTop : State := { State.reset.placeBytes 0xFFFF [0x01, 0x78, 0x56] with pc := 0xFFFF }

theorem witness_StepRunsDecoded :
    atTheTop.fault = none ∧ atTheTop.nmiPending = false ∧ (atTheTop.host.int && atTheTop.iff1) = false ∧
    atTheTop.halted = false ∧
    decode (atTheTop.read atTheTop.pc) (atTheTop.read (atTheTop.pc + 1)) (atTheTop.read (atTheTop.pc + 2))
      (atTheTop.read (atTheTop.pc + 3)) = .ok (.ldRrNn .bc 0x5678) ∧
    ∃ t, exec (.ldRrNn .bc 0x5678) { atTheTop with rReg := refreshed atTheTop.rReg 1, pc := atTheTop.pc + BitVec.ofNat 16 3 } =
      .next t ∧ t.pc = 0x0002 ∧ t.bc = 0x5678 :=
  ⟨rfl, rfl, rfl, rfl, rfl, _, rfl, rfl, by decide⟩

/-- A cost that exhausts the period, exactly and by more, and one that leaves a T-state. -/
theorem witness_TimeBase :
    State.reset.fault = none ∧
    ({ State.reset with periodCounter := 11, cost := 11 }.endStep.vdp.line,
      { State.reset with periodCounter := 11, cost := 11 }.endStep.periodCounter) = (1, 228) ∧
    ({ State.reset with periodCounter := 1, cost := 23 }.endStep.vdp.line,
      { State.reset with periodCounter := 1, cost := 23 }.endStep.periodCounter) = (1, 206) ∧
    ({ State.reset with periodCounter := 12, cost := 11 }.endStep.vdp.line,
      { State.reset with periodCounter := 12, cost := 11 }.endStep.periodCounter) = (0, 1) := by decide

/-- A state of each clause: a fault, an NMI, a mode-1 request, the halt. -/
theorem witness_StepPriorities :
    ({ State.reset with fault := some (.unsupportedInterruptMode .im2 0) }.fault = some (.unsupportedInterruptMode .im2 0)) ∧
    ({ requested .im0 with nmiPending := true }.fault = none ∧ { requested .im0 with nmiPending := true }.nmiPending = true) ∧
    ((requested .im1).fault = none ∧ (requested .im1).nmiPending = false ∧ (requested .im1).host.int = true ∧
      (requested .im1).iff1 = true ∧ (requested .im1).im = .im1) ∧
    ({ State.reset with halted := true }.fault = none ∧ { State.reset with halted := true }.nmiPending = false ∧
      ({ State.reset with halted := true }.host.int && { State.reset with halted := true }.iff1) = false ∧
      { State.reset with halted := true }.halted = true) := by decide

/-- A request in mode 2, and an encoding outside the admitted set. -/
theorem witness_StepPriorities_faults :
    ((requested .im2).fault = none ∧ (requested .im2).nmiPending = false ∧ (requested .im2).host.int = true ∧
      (requested .im2).iff1 = true ∧ (requested .im2).im ≠ .im1) ∧
    (((start [] [] [0xED, 0x70]).host.int && (start [] [] [0xED, 0x70]).iff1) = false ∧
      (start [] [] [0xED, 0x70]).halted = false ∧
      ∃ e, decode ((start [] [] [0xED, 0x70]).read 0) ((start [] [] [0xED, 0x70]).read 1) ((start [] [] [0xED, 0x70]).read 2)
        ((start [] [] [0xED, 0x70]).read 3) = .error e) :=
  ⟨by decide, rfl, rfl, _, rfl⟩

/-- The halted machine after reset. -/
def haltedAtReset : State := { State.reset with halted := true }

/-- The alpha bytes of an empty frame buffer. -/
theorem empty_frame_alpha (x y : Nat) : FrameBuffer.read [] (FrameBuffer.offset x y + 3) = 255 := by
  have h : (FrameBuffer.offset x y + 3) % 4 = 3 := by
    simp only [FrameBuffer.offset]
    omega
  simp [FrameBuffer.read, Cells.read, FrameBuffer.unlisted, h, Config.alpha]

theorem halted_inv : haltedAtReset.Inv where
  mem := rfl
  vram := rfl
  fb := rfl
  masked := by decide
  line := by decide
  period := by decide
  alpha := empty_frame_alpha
  inRange := by simp [haltedAtReset, State.reset]

/-- Nothing requested with interrupts disabled, and a halt without INT where they are enabled. -/
theorem witness_HaltCanHang :
    (haltedAtReset.Inv ∧ haltedAtReset.fault = none ∧ haltedAtReset.nmiPending = false ∧
      (haltedAtReset.host.int && haltedAtReset.iff1) = false ∧ haltedAtReset.halted = true) ∧
    ({ haltedAtReset with iff1 := true }.Inv ∧ { haltedAtReset with iff1 := true }.iff1 = true ∧
      ({ haltedAtReset with iff1 := true }.host.int && { haltedAtReset with iff1 := true }.iff1) = false) :=
  ⟨⟨halted_inv, rfl, rfl, rfl, rfl⟩, { halted_inv with }, rfl, rfl⟩

theorem witness_StepKeepsInvariant : haltedAtReset.Inv ∧ ∃ t, step haltedAtReset = .next t := ⟨halted_inv, _, rfl⟩

/-- A first byte, a register write with the greatest number, an address set up for writing and one for reading. -/
theorem witness_PortWrites :
    (Vdp.reset.latch = false ∧ (Vdp.reset.controlWrite 0xFF).vaddr = 0x00FF) ∧
    ((controlled [0xE2]).latch = true ∧ (0x87 : Byte).getLsbD 7 = true ∧ (7 : Fin 8).val = (0x87 : Byte).toNat % 8 ∧
      (1 : Fin 8) ≠ 7 ∧ (controlled [0xE2, 0x87]).vr.get 7 = 0xE2) ∧
    ((0x3F : Byte).getLsbD 7 = false ∧ (controlled [0xFF, 0x3F]).vaddr = 0x0000) ∧
    ((0x7F : Byte).getLsbD 7 = false ∧ (controlled [0xFF, 0x7F]).vaddr = 0x3FFF) := by decide

/-- A port of the VDP's family with bit 0 clear, and the address that wraps. -/
theorem witness_DataReads :
    Bits.lo 0x12BE &&& 0xE0 = 0xA0 ∧ (Bits.lo 0x12BE).getLsbD 0 = false ∧
      (State.portIn { State.reset with vdp := { Vdp.reset with vaddr := 0x3FFF } } 0x12BE).2.vdp.vaddr = 0x0000 := by decide

theorem witness_VramRoundTrip : Vdp.reset.latch = false := rfl

/-- The machine with the line counter at `line`. -/
def atLine (line : Nat) : State := { State.reset with vdp := { Vdp.reset with line := line, vram := [(0, 208)] } }

/-- Both ends of each range of the schedule. -/
theorem witness_TickSchedule :
    [0, 190, 191, 192, 260, 261].all (fun line => (atLine line).vdp.line < 262) = true ∧
    [0, 190, 191, 192, 260, 261].map (fun line => (atLine line).tick.vdp.line) = [1, 191, 192, 193, 261, 0] := by
  decide

/-- The VDP in text mode, for which there is no renderer (R821's example). -/
def textExample : Vdp := { Vdp.reset with vr := ⟨0, 0x10, 0, 0, 0, 0, 0, 0⟩ }

/-- The last line and column, both modes and one without a renderer, and another row. -/
theorem witness_BackgroundRows :
    (g1Example.vr.Masked ∧ g1Example.vr.displayMode = .g1) ∧
    (VdpRegs.Masked ⟨0x02, 0, 0x0E, 0xFF, 0x03, 0, 0, 0x01⟩ ∧ g2Example.vr.displayMode = .g2) ∧
    (textExample.vr.Masked ∧ textExample.vr.displayMode = .other 4) ∧
    191 < 192 ∧ 255 < 256 ∧ 190 ≠ 191 ∧ ∀ px py, FrameBuffer.read g1Example.fb (FrameBuffer.offset px py + 3) = 255 :=
  ⟨⟨by decide, by decide⟩, ⟨by decide, by decide⟩, ⟨by decide, by decide⟩, by decide, by decide, by decide, empty_frame_alpha⟩

/-- More than four visible entries; and none: both ends of the scan. -/
theorem witness_SpriteScan :
    g1Example.vr.Masked ∧ (Vdp.scanSprites { Vdp.reset with vram := [(20, 208)] } 1).overflow = true ∧
      (Vdp.scanSprites { Vdp.reset with vram := [(0, 208)] } 1).visible = [] := by decide

/-- A small sprite, and a large one whose row spans two quadrants, on lines they show on. -/
theorem witness_SpriteGeometry :
    (spriteExample.vr.Masked ∧ 0 < 32 ∧ spriteExample.isVisible 1 0 = true) ∧
    (largeSpriteExample.vr.Masked ∧ largeSpriteExample.isVisible 31 0 = true ∧ largeSpriteExample.vr.large = true) := by decide

/-- R847's three sprites: their rows, a covered and an uncovered column, and a column two of them share. -/
theorem witness_SpritesOnALine :
    spriteExample.vr.Masked ∧ 1 < 192 ∧
    (spriteExample.scanSprites 1).visible.map (spriteExample.spriteRow 1) =
      [⟨[10, 11, 12, 13, 14, 15, 16, 17], 0⟩, ⟨[14, 15, 16, 17, 18, 19, 20, 21], 6⟩,
        ⟨[12, 13, 14, 15, 16, 17, 18, 19], 9⟩].map Except.ok ∧
    ∀ px py, FrameBuffer.read (⟨[], []⟩ : Canvas).fb (FrameBuffer.offset px py + 3) = 255 :=
  ⟨by decide, by decide, rfl, empty_frame_alpha⟩

/-- An image one byte too long, and images of the greatest lengths. -/
theorem witness_Construction :
    8192 < (List.replicate 8193 (0 : Byte)).length ∧ 32768 < (List.replicate 32769 (0 : Byte)).length ∧
      (List.replicate 8192 (0 : Byte)).length ≤ 8192 ∧ (List.replicate 32768 (0 : Byte)).length ≤ 32768 := by
  simp only [List.length_replicate]
  omega

end Sys2Proof.Tests
end

section
/-! Bank selectors (10_state.md R101, R102): no operation but the two toggles changes one, so no instruction but `EX AF,AF'`
and `EXX` does; and what a toggle makes the register names resolve to. -/

namespace Sys2Proof.Machine

/-! ## Operations that keep both selectors -/

@[simp] theorem State.setFlags_selector (s : State) (fl : Flags) (q : RegName) :
    (s.setFlags fl).selector q = s.selector q := s.setReg_selector .f fl.toByte q

@[simp] theorem State.setBc_selector (s : State) (v : Word) (q : RegName) : (s.setBc v).selector q = s.selector q := by
  simp [State.setBc]

@[simp] theorem State.setDe_selector (s : State) (v : Word) (q : RegName) : (s.setDe v).selector q = s.selector q := by
  simp [State.setDe]

@[simp] theorem State.setHl_selector (s : State) (v : Word) (q : RegName) : (s.setHl v).selector q = s.selector q := by
  simp [State.setHl]

@[simp] theorem State.setAf_selector (s : State) (v : Word) (q : RegName) : (s.setAf v).selector q = s.selector q := by
  simp [State.setAf]

@[simp] theorem State.setRp_selector (s : State) (rr : Rp) (v : Word) (q : RegName) :
    (s.setRp rr v).selector q = s.selector q := by
  cases rr <;> simp [State.setRp]

@[simp] theorem State.setQq_selector (s : State) (qq : Qq) (v : Word) (q : RegName) :
    (s.setQq qq v).selector q = s.selector q := by
  cases qq <;> simp [State.setQq]

@[simp] theorem State.write16_selector (s : State) (a v : Word) (q : RegName) :
    (s.write16 a v).selector q = s.selector q := by
  simp [State.write16]

@[simp] theorem State.push16_selector (s : State) (v : Word) (q : RegName) : (s.push16 v).selector q = s.selector q := by
  simp [State.push16_spec]

@[simp] theorem State.dropPopped_selector (s : State) (q : RegName) : s.dropPopped.selector q = s.selector q :=
  s.setSp_selector (s.sp + 2) q

@[simp] theorem State.returnFromInterrupt_selector (s : State) (q : RegName) :
    s.returnFromInterrupt.selector q = s.selector q := by
  simp [State.returnFromInterrupt]

@[simp] theorem State.blockMove_selector (s : State) (up : Bool) (q : RegName) :
    (s.blockMove up).selector q = s.selector q := by
  simp [State.blockMove]

@[simp] theorem State.blockSearch_selector (s : State) (up : Bool) (q : RegName) :
    (s.blockSearch up).selector q = s.selector q := by
  simp [State.blockSearch]

@[simp] theorem State.blockIn_selector (s : State) (up : Bool) (q : RegName) :
    (s.blockIn up).selector q = s.selector q := by
  simp [State.blockIn]

@[simp] theorem State.blockOut_selector (s : State) (up : Bool) (q : RegName) :
    (s.blockOut up).selector q = s.selector q := by
  simp [State.blockOut]

@[simp] theorem State.repeatWhile_selector (s : State) (i : Instr) (again : Bool) (q : RegName) :
    (s.repeatWhile i again).selector q = s.selector q := by
  cases again <;> simp [State.repeatWhile]

/-! ## The toggles (R102) -/

@[simp] theorem State.toggleAf_selector (s : State) (q : RegName) :
    s.toggleAf.selector q = if q = .a ∨ q = .f then !s.afSel else s.selector q := by
  cases q <;> rfl

@[simp] theorem State.toggleMain_selector (s : State) (q : RegName) :
    s.toggleMain.selector q = if q = .a ∨ q = .f then s.selector q else !s.mainSel := by
  cases q <;> rfl

/-- A and F are read from the other bank, every other register from where it was. -/
theorem State.toggleAf_reg (s : State) (q : RegName) :
    s.toggleAf.reg q = if q = .a ∨ q = .f then s.physical (!s.afSel) q else s.reg q := by
  simp only [State.reg, State.toggleAf_physical, State.toggleAf_selector]
  split <;> rfl

/-- B to L are read from the other bank, A and F from where they were. -/
theorem State.toggleMain_reg (s : State) (q : RegName) :
    s.toggleMain.reg q = if q = .a ∨ q = .f then s.reg q else s.physical (!s.mainSel) q := by
  simp only [State.reg, State.toggleMain_physical, State.toggleMain_selector]
  split <;> rfl

/-! ## Instructions -/

/-- Every instruction but the two toggles keeps both selectors: it is made of operations that do. -/
theorem exec_selector {i : Instr} {s t : State} (h : exec i s = .next t) (hAf : i ≠ .exAfAf) (hMain : i ≠ .exx)
    (q : RegName) : t.selector q = s.selector q := by
  cases i
  case exAfAf => exact absurd rfl hAf
  case exx => exact absurd rfl hMain
  case jpCcNn | jrCcE | djnzE | callCcNn | retCc =>
    simp only [exec, execJpCcNn, execJrCcE, execDjnzE, execCallCcNn, execRetCc] at h
    split at h <;> cases h <;> simp
  case ldir | lddr | cpir | cpdr | inir | indr | otir | otdr =>
    cases h
    simp [State.blockMoveRepeat, State.blockSearchRepeat, State.blockInRepeat, State.blockOutRepeat]
  all_goals
    cases h
    simp

/-- Settles O34: `EX AF,AF'` and `EXX` by what their toggle does, every other instruction because it keeps both selectors. -/
theorem bankSelectors : Obligations.BankSelectors := by
  unfold Obligations.BankSelectors
  intro i s t h
  by_cases hAf : i = .exAfAf
  · subst hAf
    cases h
    simp [State.toggleAf_reg]
  by_cases hMain : i = .exx
  · subst hMain
    cases h
    simp [State.toggleMain_reg]
  have hsel := exec_selector h hAf hMain
  have hafSel : t.afSel = s.afSel := hsel .a
  have hmainSel : t.mainSel = s.mainSel := hsel .b
  simp [hAf, hMain, hafSel, hmainSel]

end Sys2Proof.Machine
end

section
/-! The 8-bit addition of 43_alu8.md (R540): what each component of `add8` says. PV is the one with an idea: the sign-bit rule
of the spec says that the sum with carry-in does not fit a signed word. That holds at every width and is proved so. -/

namespace Sys2Proof.Machine

/-! ## Signed overflow of an addition with carry-in -/

/-- A sum below twice the modulus is reduced by at most one subtraction. -/
theorem mod_eq_self_or_sub {t m : Nat} (h : t < 2 * m) : t < m ∧ t % m = t ∨ m ≤ t ∧ t % m = t - m := by
  obtain hlt | hle := Nat.lt_or_ge t m
  · exact .inl ⟨hlt, Nat.mod_eq_of_lt hlt⟩
  · exact .inr ⟨hle, by rw [Nat.mod_eq_sub_mod hle, Nat.mod_eq_of_lt (by omega)]⟩

/-- Operands of equal sign whose sum has the other sign are those whose sum with carry-in, read as signed, leaves the range of
the width. -/
theorem msb_disagrees_iff_signed_overflow {w : Nat} (a b : BitVec (w + 1)) (c : Bool) :
    (a.msb = b.msb ∧ (BitVec.ofNat (w + 1) (a.toNat + b.toNat + c.toNat)).msb ≠ a.msb) ↔
      a.toInt + b.toInt + c.toNat < -2 ^ w ∨ 2 ^ w ≤ a.toInt + b.toInt + c.toNat := by
  have ha := a.isLt
  have hb := b.isLt
  have hc := c.toNat_le
  have hwrap := mod_eq_self_or_sub (t := a.toNat + b.toNat + c.toNat) (m := 2 ^ (w + 1)) (by omega)
  have hpow : (2 : Int) ^ w = ((2 ^ w : Nat) : Int) := by simp
  simp only [BitVec.toInt_eq_msb_cond, BitVec.msb_eq_decide, BitVec.toNat_ofNat, Nat.add_sub_cancel, hpow,
    decide_eq_true_eq, decide_eq_decide, ne_eq]
  rw [Nat.pow_succ] at ha hb hwrap ⊢
  generalize 2 ^ w = n at ha hb hwrap ⊢
  -- The signs of the two operands; `hwrap` says whether the sum wrapped.
  split <;> split <;> omega

/-! ## The components of `add8` -/

theorem add8_result_toNat (a b : Byte) (c : Bool) : (add8 a b c).1.toNat = (a.toNat + b.toNat + c.toNat) % 256 :=
  BitVec.toNat_ofNat _ 8

theorem add8_zero_iff (a b : Byte) (c : Bool) : (add8 a b c).2.z = true ↔ (add8 a b c).1 = 0 :=
  beq_iff_eq

theorem add8_halfCarry_iff (a b : Byte) (c : Bool) :
    (add8 a b c).2.h = true ↔ a.toNat % 16 + b.toNat % 16 + c.toNat > 15 :=
  decide_eq_true_iff

theorem add8_carry_iff (a b : Byte) (c : Bool) : (add8 a b c).2.c = true ↔ a.toNat + b.toNat + c.toNat > 255 :=
  decide_eq_true_iff

/-- PV by the sign bits, as the spec computes it. -/
theorem add8_overflow_iff_signs (a b : Byte) (c : Bool) :
    (add8 a b c).2.pv = true ↔ a.getLsbD 7 = b.getLsbD 7 ∧ (add8 a b c).1.getLsbD 7 ≠ a.getLsbD 7 := by
  simp [add8]

/-- PV by the value: the signed sum leaves the range of a byte. -/
theorem add8_overflow_iff_toInt (a b : Byte) (c : Bool) :
    (add8 a b c).2.pv = true ↔ a.toInt + b.toInt + c.toNat < -128 ∨ 127 < a.toInt + b.toInt + c.toNat :=
  (add8_overflow_iff_signs a b c).trans (msb_disagrees_iff_signed_overflow (w := 7) a b c)

/-- Settles O1, from the components above; S, N and the copies of bits 5 and 3 are so by definition. -/
theorem addEight : Obligations.AddEight := by
  unfold Obligations.AddEight
  intro a b c
  exact ⟨add8_result_toNat a b c, rfl, add8_zero_iff a b c, rfl, rfl, add8_halfCarry_iff a b c,
    add8_overflow_iff_signs a b c, add8_overflow_iff_toInt a b c, rfl, add8_carry_iff a b c⟩

end Sys2Proof.Machine
end

section
/-! The shuffles of 45_rotate_bit.md (R640): each moves the byte one place, left or right, and takes one bit in at the end
that this leaves free. Shuffles of one direction differ only in the bit taken in, so where the bits go is said once for each
direction. -/

namespace Sys2Proof.Machine

/-- The shuffles that move the byte towards bit 7; the others move it towards bit 0. -/
def RotOp.isLeft : RotOp → Bool
  | .rlc | .rl | .sla | .sll => true
  | .rrc | .rr | .sra | .srl => false

/-- The bit a shuffle takes in: at bit 0 when it moves left, at bit 7 when it moves right. -/
def RotOp.bitIn (v : Byte) (c : Bool) : RotOp → Bool
  | .rlc | .sra => v.getLsbD 7
  | .rrc => v.getLsbD 0
  | .rl | .rr => c
  | .sla | .srl => false
  | .sll => true

/-! ## One equation for each direction -/

theorem shuffle_of_isLeft {op : RotOp} (h : op.isLeft = true) (v : Byte) (c : Bool) :
    shuffle op v c = (v <<< 1 ||| (if op.bitIn v c then 0x01 else 0x00), v.getLsbD 7) := by
  cases op with
  | rlc | rl | sll => rfl
  | sla => simp [shuffle, RotOp.bitIn]
  | rrc | rr | sra | srl => cases h

theorem shuffle_of_isRight {op : RotOp} (h : op.isLeft = false) (v : Byte) (c : Bool) :
    shuffle op v c = (v >>> 1 ||| (if op.bitIn v c then 0x80 else 0x00), v.getLsbD 0) := by
  cases op with
  | rrc | rr | sra => rfl
  | srl => simp [shuffle, RotOp.bitIn]
  | rlc | rl | sla | sll => cases h

/-! ## The carry out, the bits that move and the bit taken in -/

section Left
variable {op : RotOp} (h : op.isLeft = true) (v : Byte) (c : Bool)
include h

theorem shuffle_carry_of_isLeft : (shuffle op v c).2 = v.getLsbD 7 := by
  rw [shuffle_of_isLeft h]

theorem shuffle_getLsbD_succ_of_isLeft {i : Nat} (hi : i < 7) : (shuffle op v c).1.getLsbD (i + 1) = v.getLsbD i := by
  rw [shuffle_of_isLeft h]
  cases op.bitIn v c <;> simp <;> omega

theorem shuffle_getLsbD_zero_of_isLeft : (shuffle op v c).1.getLsbD 0 = op.bitIn v c := by
  rw [shuffle_of_isLeft h]
  cases op.bitIn v c <;> simp

end Left

section Right
variable {op : RotOp} (h : op.isLeft = false) (v : Byte) (c : Bool)
include h

theorem shuffle_carry_of_isRight : (shuffle op v c).2 = v.getLsbD 0 := by
  rw [shuffle_of_isRight h]

theorem shuffle_getLsbD_of_isRight {i : Nat} (hi : i < 7) : (shuffle op v c).1.getLsbD i = v.getLsbD (i + 1) := by
  rw [shuffle_of_isRight h]
  have hclear : (0x80#8).getLsbD i = false := by decide +revert
  cases op.bitIn v c <;> simp [hclear, Nat.add_comm]

theorem shuffle_getLsbD_seven_of_isRight : (shuffle op v c).1.getLsbD 7 = op.bitIn v c := by
  rw [shuffle_of_isRight h]
  cases op.bitIn v c <;> simp

end Right

/-- Settles O5: four shuffles of each direction, each by the three lemmas of its direction; the bit taken in is `RotOp.bitIn`. -/
theorem rotateShuffles : Obligations.RotateShuffles := by
  unfold Obligations.RotateShuffles
  intro v c
  have carryLeft {op : RotOp} (h : op.isLeft = true) := shuffle_carry_of_isLeft h v c
  have carryRight {op : RotOp} (h : op.isLeft = false) := shuffle_carry_of_isRight h v c
  have inLeft {op : RotOp} (h : op.isLeft = true) := shuffle_getLsbD_zero_of_isLeft h v c
  have inRight {op : RotOp} (h : op.isLeft = false) := shuffle_getLsbD_seven_of_isRight h v c
  refine ⟨?carry, fun i hi => ?moved, ?taken⟩
  case carry =>
    exact ⟨carryLeft rfl, carryLeft rfl, carryLeft rfl, carryLeft rfl,
      carryRight rfl, carryRight rfl, carryRight rfl, carryRight rfl⟩
  case moved =>
    have movedLeft {op : RotOp} (h : op.isLeft = true) := shuffle_getLsbD_succ_of_isLeft h v c hi
    have movedRight {op : RotOp} (h : op.isLeft = false) := shuffle_getLsbD_of_isRight h v c hi
    exact ⟨movedLeft rfl, movedLeft rfl, movedLeft rfl, movedLeft rfl,
      movedRight rfl, movedRight rfl, movedRight rfl, movedRight rfl⟩
  case taken =>
    exact ⟨inLeft rfl, inLeft rfl, inLeft rfl, inLeft rfl, inRight rfl, inRight rfl, inRight rfl, inRight rfl⟩

end Sys2Proof.Machine
end

section
/-! The data read of 48_vdp.md (R813): a port of the VDP's family with bit 0 clear selects the data port, and a read there is
`Vdp.dataRead`. -/

namespace Sys2Proof.Machine

theorem portOf_eq_vdpData {p : Byte} (family : p &&& 0xE0 = 0xA0) (bit0 : p.getLsbD 0 = false) : portOf p = .vdpData := by
  rw [portOf_cases, if_pos family, bit0, if_neg Bool.false_ne_true]

theorem State.portIn_of_vdpData {s : State} {port : Word} (h : portOf (Bits.lo port) = .vdpData) :
    s.portIn port = (s.vdp.readAhead, s.setVdp s.vdp.dataRead) := by
  simp only [State.portIn, h]

/-- The 14-bit increment is addition modulo 2^14 (R125). -/
theorem Vdp.nextAddr_eq_ofNat_mod (v : Vdp) : v.nextAddr = BitVec.ofNat 14 ((v.vaddr.toNat + 1) % 2 ^ 14) := by
  apply BitVec.eq_of_toNat_eq
  simp [Vdp.nextAddr]

/-- Settles O48: the port selects the VDP's data, and the address `Vdp.dataRead` leaves is the increment modulo 2^14. -/
theorem dataReads : Obligations.DataReads := by
  unfold Obligations.DataReads
  intro s port family bit0
  rw [State.portIn_of_vdpData (portOf_eq_vdpData family bit0), ← Vdp.nextAddr_eq_ofNat_mod]
  rfl

end Sys2Proof.Machine
end

section
/-! Decoding what `encode` writes (30_encoding.md R300 to R302). An opcode byte holds at most a register, a pair, a condition, a
bit number or a restart target; once that is fixed, the decoder's answer is a computation that never looks at an operand
byte or at what follows the instruction. -/

namespace Sys2Proof

/-- The decoder reads `i` from these bytes, whatever bytes follow them. -/
def Instr.ReadFrom (i : Instr) : List Byte → Prop
  | [b0] => ∀ b1 b2 b3, decode b0 b1 b2 b3 = .ok i
  | [b0, b1] => ∀ b2 b3, decode b0 b1 b2 b3 = .ok i
  | [b0, b1, b2] => ∀ b3, decode b0 b1 b2 b3 = .ok i
  | [b0, b1, b2, b3] => decode b0 b1 b2 b3 = .ok i
  | _ => False

theorem Instr.ReadFrom.decodeBytes_append {i : Instr} {bytes : List Byte} (h : i.ReadFrom bytes) (rest : List Byte) :
    decodeBytes (bytes ++ rest) = .ok i := by
  match bytes, h with
  | [_], h => exact h _ _ _
  | [_, _], h => exact h _ _
  | [_, _, _], h => exact h _
  | [_, _, _, _], h => exact h

/-- The eight restart targets (R713). -/
theorem rstTarget_cases : ∀ p : Byte, rstTarget p = true →
    p = 0x00 ∨ p = 0x08 ∨ p = 0x10 ∨ p = 0x18 ∨ p = 0x20 ∨ p = 0x28 ∨ p = 0x30 ∨ p = 0x38 := by decide

/-- An operand word is read back from its two bytes. -/
theorem Instr.ReadFrom.of_pair {f : Word → Instr} {nn : Word} {bytes : List Byte}
    (h : (f (Bits.pair (Bits.hi nn) (Bits.lo nn))).ReadFrom bytes) : (f nn).ReadFrom bytes := by
  rwa [Machine.pair_hi_lo] at h

/-- The decoder reads a well-formed instruction from its encoding, one case for each kind of operand an opcode byte holds. -/
theorem Instr.readFrom_encode {i : Instr} (h : i.wellFormed = true) : i.ReadFrom (encode i) := by
  cases i
  case ldRR r r' => cases r <;> cases r' <;> exact fun _ _ _ => rfl
  case ldRAtHl r | ldAtHlR r | addR r | adcR r | subR r | sbcR r | andR r | xorR r | orR r | cpR r | incR r | decR r =>
    cases r <;> exact fun _ _ _ => rfl
  case ldRN r _ | rlcR r | rrcR r | rlR r | rrR r | slaR r | sraR r | sllR r | srlR r | inRC r | outCR r =>
    cases r <;> exact fun _ _ => rfl
  case ldRIxd r _ | ldRIyd r _ | ldIxdR _ r | ldIydR _ r => cases r <;> exact fun _ => rfl
  case bitR b r | resR b r | setR b r => cases r <;> fin_cases b <;> exact fun _ _ => rfl
  case bitAtHl b | resAtHl b | setAtHl b => fin_cases b <;> exact fun _ _ => rfl
  case bitIxd b _ | bitIyd b _ | resIxd b _ | resIyd b _ | setIxd b _ | setIyd b _ => fin_cases b <;> exact rfl
  case addHlRr rr | incRr rr | decRr rr | pushQq rr | popQq rr => cases rr <;> exact fun _ _ _ => rfl
  case adcHlRr rr | sbcHlRr rr | addIxRr rr | addIyRr rr => cases rr <;> exact fun _ _ => rfl
  case retCc cc => cases cc <;> exact fun _ _ _ => rfl
  case jrCcE cc _ =>
    cases cc
    case nz | z | nc | c => exact fun _ _ => rfl
    case po | pe | p | m => cases h
  case rst p =>
    obtain rfl | rfl | rfl | rfl | rfl | rfl | rfl | rfl := rstTarget_cases p h <;> exact fun _ _ _ => rfl
  case ldRrNn rr nn => exact .of_pair (f := .ldRrNn rr) (by cases rr <;> exact fun _ => rfl)
  case ldRrAtNn rr nn => exact .of_pair (f := .ldRrAtNn rr) (by cases rr <;> exact rfl)
  case ldAtNnRr nn rr => exact .of_pair (f := (.ldAtNnRr · rr)) (by cases rr <;> exact rfl)
  case jpCcNn cc nn => exact .of_pair (f := .jpCcNn cc) (by cases cc <;> exact fun _ => rfl)
  case callCcNn cc nn => exact .of_pair (f := .callCcNn cc) (by cases cc <;> exact fun _ => rfl)
  case ldAAtNn nn => exact .of_pair (f := .ldAAtNn) fun _ => rfl
  case ldAtNnA nn => exact .of_pair (f := .ldAtNnA) fun _ => rfl
  case ldHlAtNn nn => exact .of_pair (f := .ldHlAtNn) fun _ => rfl
  case ldAtNnHl nn => exact .of_pair (f := .ldAtNnHl) fun _ => rfl
  case jpNn nn => exact .of_pair (f := .jpNn) fun _ => rfl
  case callNn nn => exact .of_pair (f := .callNn) fun _ => rfl
  case ldIxNn nn => exact .of_pair (f := .ldIxNn) rfl
  case ldIyNn nn => exact .of_pair (f := .ldIyNn) rfl
  case ldIxAtNn nn => exact .of_pair (f := .ldIxAtNn) rfl
  case ldIyAtNn nn => exact .of_pair (f := .ldIyAtNn) rfl
  case ldAtNnIx nn => exact .of_pair (f := .ldAtNnIx) rfl
  case ldAtNnIy nn => exact .of_pair (f := .ldAtNnIy) rfl
  all_goals
    repeat intro _
    exact rfl

/-- Settles O38: the decoder reads a well-formed instruction from its encoding. -/
theorem decodeOfEncode : Obligations.DecodeOfEncode := by
  unfold Obligations.DecodeOfEncode
  exact fun i rest h => (Instr.readFrom_encode h).decodeBytes_append rest

end Sys2Proof
end

section
/-! Encoding what was decoded (30_encoding.md R320 to R324), table by table. -/

namespace Sys2Proof

open Machine

/-! ## The fields of an opcode (R301) -/

theorem Bits.opcode_fields : ∀ op : Byte, Bits.opcode (Bits.fieldX op) (Bits.fieldY op) (Bits.fieldZ op) = op := by decide

theorem Bits.fieldX_lt (op : Byte) : Bits.fieldX op < 4 := by simp only [Bits.fieldX]; omega

theorem Bits.fieldY_lt (op : Byte) : Bits.fieldY op < 8 := Nat.mod_lt _ (by decide)

theorem Bits.fieldZ_lt (op : Byte) : Bits.fieldZ op < 8 := Nat.mod_lt _ (by decide)

/-! ## The tables -/

/-- `i` is well-formed and its encoding is the first of these bytes. -/
def Instr.WrittenAs (i : Instr) (bytes : List Byte) : Prop := i.wellFormed = true ∧ encode i = bytes.take i.length

/-- The bytes of a word operand are those it was read from. -/
theorem writtenAs_pair {f : Word → Instr} {bytes : List Byte} {h l : Byte} (hw : (f (Bits.pair h l)).wellFormed = true)
    (he : encode (f (Bits.pair h l)) = bytes ++ [Bits.lo (Bits.pair h l), Bits.hi (Bits.pair h l)])
    (rest : List Byte) (hl : (f (Bits.pair h l)).length = bytes.length + 2) :
    (f (Bits.pair h l)).WrittenAs (bytes ++ l :: h :: rest) := by
  refine ⟨hw, ?_⟩
  rw [he, hl, lo_pair, hi_pair, List.take_length_add_append]
  rfl

/-- R320, opcodes 0x00 to 0x3F. -/
theorem decodeBase0_writtenAs {y z : Nat} (hy : y < 8) (hz : z < 8) (b1 b2 b3 : Byte) :
    (decodeBase0 y z b1 b2).WrittenAs [Bits.opcode 0 y z, b1, b2, b3] := by
  have word (f : Word → Instr) (op) := writtenAs_pair (f := f) (bytes := [op]) (h := b2) (l := b1) (rest := [b3])
  interval_cases z
  · interval_cases y <;> exact ⟨rfl, rfl⟩
  · interval_cases y
    · exact word (.ldRrNn .bc) _ rfl rfl rfl
    · exact ⟨rfl, rfl⟩
    · exact word (.ldRrNn .de) _ rfl rfl rfl
    · exact ⟨rfl, rfl⟩
    · exact word (.ldRrNn .hl) _ rfl rfl rfl
    · exact ⟨rfl, rfl⟩
    · exact word (.ldRrNn .sp) _ rfl rfl rfl
    · exact ⟨rfl, rfl⟩
  · interval_cases y
    · exact ⟨rfl, rfl⟩
    · exact ⟨rfl, rfl⟩
    · exact ⟨rfl, rfl⟩
    · exact ⟨rfl, rfl⟩
    · exact word .ldAtNnHl _ rfl rfl rfl
    · exact word .ldHlAtNn _ rfl rfl rfl
    · exact word .ldAtNnA _ rfl rfl rfl
    · exact word .ldAAtNn _ rfl rfl rfl
  all_goals interval_cases y <;> exact ⟨rfl, rfl⟩

/-- R320, opcodes 0x40 to 0x7F. -/
theorem decodeBase1_writtenAs {y z : Nat} (hy : y < 8) (hz : z < 8) (b1 b2 b3 : Byte) :
    (decodeBase1 y z).WrittenAs [Bits.opcode 1 y z, b1, b2, b3] := by
  interval_cases y <;> interval_cases z <;> exact ⟨rfl, rfl⟩

/-- R320, opcodes 0x80 to 0xBF. -/
theorem decodeBase2_writtenAs {y z : Nat} (hy : y < 8) (hz : z < 8) (b1 b2 b3 : Byte) :
    (decodeBase2 y z).WrittenAs [Bits.opcode 2 y z, b1, b2, b3] := by
  interval_cases y <;> interval_cases z <;> exact ⟨rfl, rfl⟩

/-- R320, opcodes 0xC0 to 0xFF. -/
theorem decodeBase3_writtenAs {y z : Nat} (hy : y < 8) (hz : z < 8) (b1 b2 b3 : Byte) {i : Instr}
    (h : decodeBase3 y z b1 b2 = some i) : i.WrittenAs [Bits.opcode 3 y z, b1, b2, b3] := by
  have word (f : Word → Instr) (op) := writtenAs_pair (f := f) (bytes := [op]) (h := b2) (l := b1) (rest := [b3])
  interval_cases z
  · interval_cases y <;> cases h <;> exact ⟨rfl, rfl⟩
  · interval_cases y <;> cases h <;> exact ⟨rfl, rfl⟩
  · cases h
    interval_cases y <;> exact word (.jpCcNn _) _ rfl rfl rfl
  · interval_cases y <;> cases h
    · exact word .jpNn _ rfl rfl rfl
    all_goals exact ⟨rfl, rfl⟩
  · cases h
    interval_cases y <;> exact word (.callCcNn _) _ rfl rfl rfl
  · interval_cases y <;> cases h
    · exact ⟨rfl, rfl⟩
    · exact word .callNn _ rfl rfl rfl
    all_goals exact ⟨rfl, rfl⟩
  · interval_cases y <;> cases h <;> exact ⟨rfl, rfl⟩
  · interval_cases y <;> cases h <;> exact ⟨rfl, rfl⟩

/-- The base table (R320). -/
theorem decodeBase_writtenAs {op b1 b2 : Byte} {i : Instr} (h : decodeBase op b1 b2 = some i) (b3 : Byte) :
    i.WrittenAs [op, b1, b2, b3] := by
  have hx := Bits.fieldX_lt op
  have hy := Bits.fieldY_lt op
  have hz := Bits.fieldZ_lt op
  rw [← Bits.opcode_fields op]
  simp only [decodeBase] at h
  generalize Bits.fieldX op = x at *
  interval_cases x
  · cases h
    exact decodeBase0_writtenAs hy hz b1 b2 b3
  · cases h
    exact decodeBase1_writtenAs hy hz b1 b2 b3
  · cases h
    exact decodeBase2_writtenAs hy hz b1 b2 b3
  · exact decodeBase3_writtenAs hy hz b1 b2 b3 h

/-- The CB table (R321). -/
theorem decodeCB_writtenAs (op b2 b3 : Byte) : (decodeCB op).WrittenAs [0xCB, op, b2, b3] := by
  have h : ∀ op, (decodeCB op).wellFormed = true ∧ (decodeCB op).length = 2 ∧ encode (decodeCB op) = [0xCB, op] := by decide
  obtain ⟨hw, hl, he⟩ := h op
  exact ⟨hw, by rw [hl, he]; rfl⟩

/-- R322, opcodes 0x40 to 0x7F. -/
theorem decodeED1_writtenAs {y z : Nat} (hy : y < 8) (hz : z < 8) {b2 b3 : Byte} {i : Instr}
    (h : decodeED1 y z b2 b3 = some i) : i.WrittenAs [0xED, Bits.opcode 1 y z, b2, b3] := by
  have word (f : Word → Instr) (op) := writtenAs_pair (f := f) (bytes := [0xED, op]) (h := b3) (l := b2) (rest := [])
  interval_cases z
  · interval_cases y <;> cases h <;> exact ⟨rfl, rfl⟩
  · interval_cases y <;> cases h <;> exact ⟨rfl, rfl⟩
  · interval_cases y <;> cases h <;> exact ⟨rfl, rfl⟩
  · cases h
    interval_cases y
    · exact word (.ldAtNnRr · _) _ rfl rfl rfl
    · exact word (.ldRrAtNn _) _ rfl rfl rfl
    · exact word (.ldAtNnRr · _) _ rfl rfl rfl
    · exact word (.ldRrAtNn _) _ rfl rfl rfl
    · exact word (.ldAtNnRr · _) _ rfl rfl rfl
    · exact word (.ldRrAtNn _) _ rfl rfl rfl
    · exact word (.ldAtNnRr · _) _ rfl rfl rfl
    · exact word (.ldRrAtNn _) _ rfl rfl rfl
  all_goals interval_cases y <;> cases h <;> exact ⟨rfl, rfl⟩

/-- R322, the block instructions. -/
theorem decodeED2_writtenAs {y z : Nat} (b2 b3 : Byte) {i : Instr} (h : decodeED2 y z = some i) :
    i.WrittenAs [0xED, Bits.opcode 2 y z, b2, b3] := by
  simp only [decodeED2] at h
  split at h <;> cases h <;> exact ⟨rfl, rfl⟩

/-- The ED table (R322). -/
theorem decodeED_writtenAs {op b2 b3 : Byte} {i : Instr} (h : decodeED op b2 b3 = some i) :
    i.WrittenAs [0xED, op, b2, b3] := by
  have hy := Bits.fieldY_lt op
  have hz := Bits.fieldZ_lt op
  rw [← Bits.opcode_fields op]
  simp only [decodeED] at h
  split at h
  · next hx => exact hx ▸ decodeED1_writtenAs hy hz h
  · next hx => exact hx ▸ decodeED2_writtenAs b2 b3 h
  · cases h

/-- The byte that selects an index register (R310). -/
def Index.prefixByte : Index → Byte
  | .ix => 0xDD
  | .iy => 0xFD

/-- The index-CB table (R324). -/
theorem decodeIndexCB_writtenAs {xy : Index} {d op : Byte} {i : Instr} (h : decodeIndexCB xy d op = some i) :
    i.WrittenAs [xy.prefixByte, 0xCB, d, op] := by
  have hx := Bits.fieldX_lt op
  have hy := Bits.fieldY_lt op
  rw [← Bits.opcode_fields op]
  simp only [decodeIndexCB] at h
  split at h
  · next hz =>
    rw [hz]
    generalize Bits.fieldX op = x at *
    generalize Bits.fieldY op = y at *
    interval_cases x <;> cases h <;> cases xy <;> interval_cases y <;> exact ⟨rfl, rfl⟩
  · cases h

/-- The index table of an index register (R323). -/
def indexTable : Index → Byte → Byte → Byte → Option Instr
  | .ix => decodeIX
  | .iy => decodeIY

theorem indexTable_writtenAs {xy : Index} {op b2 b3 : Byte} {i : Instr} (h : indexTable xy op b2 b3 = some i) :
    i.WrittenAs [xy.prefixByte, op, b2, b3] := by
  have word (f : Word → Instr) (op) :=
    writtenAs_pair (f := f) (bytes := [xy.prefixByte, op]) (h := b3) (l := b2) (rest := [])
  have hx := Bits.fieldX_lt op
  have hy := Bits.fieldY_lt op
  have hz := Bits.fieldZ_lt op
  rw [← Bits.opcode_fields op] at h ⊢
  generalize Bits.fieldX op = x at *
  generalize Bits.fieldY op = y at *
  generalize Bits.fieldZ op = z at *
  interval_cases x
  · interval_cases z
    · interval_cases y <;> cases xy <;> cases h <;> exact ⟨rfl, rfl⟩
    · interval_cases y
      · cases xy <;> cases h
      · cases xy <;> cases h <;> exact ⟨rfl, rfl⟩
      · cases xy <;> cases h
      · cases xy <;> cases h <;> exact ⟨rfl, rfl⟩
      · cases xy <;> cases h
        · exact word .ldIxNn _ rfl rfl rfl
        · exact word .ldIyNn _ rfl rfl rfl
      all_goals cases xy <;> cases h <;> exact ⟨rfl, rfl⟩
    · interval_cases y
      · cases xy <;> cases h
      · cases xy <;> cases h
      · cases xy <;> cases h
      · cases xy <;> cases h
      · cases xy <;> cases h
        · exact word .ldAtNnIx _ rfl rfl rfl
        · exact word .ldAtNnIy _ rfl rfl rfl
      · cases xy <;> cases h
        · exact word .ldIxAtNn _ rfl rfl rfl
        · exact word .ldIyAtNn _ rfl rfl rfl
      all_goals cases xy <;> cases h
    all_goals interval_cases y <;> cases xy <;> cases h <;> exact ⟨rfl, rfl⟩
  all_goals interval_cases z <;> interval_cases y <;> cases xy <;> cases h <;> exact ⟨rfl, rfl⟩

theorem admitted_eq_ok {entry : Option Instr} {reject : Reject} {i : Instr} (h : admitted entry reject = .ok i) :
    entry = some i := by
  cases entry <;> cases h
  rfl

/-- The decoder reads an instruction from its encoding. -/
theorem decode_writtenAs {b0 b1 b2 b3 : Byte} {i : Instr} (h : decode b0 b1 b2 b3 = .ok i) :
    i.WrittenAs [b0, b1, b2, b3] := by
  have indexed {xy : Index} (h : decodeIndexed xy b0 b1 b2 b3 = .ok i) (hp : b0 = xy.prefixByte) :
      i.WrittenAs [b0, b1, b2, b3] := by
    subst hp
    simp only [decodeIndexed] at h
    split at h
    · next hcb => exact hcb ▸ decodeIndexCB_writtenAs (admitted_eq_ok h)
    · cases xy with
      | ix | iy => exact indexTable_writtenAs (admitted_eq_ok h)
  simp only [decode] at h
  split at h
  · next hcb =>
    cases h
    exact hcb ▸ decodeCB_writtenAs b1 b2 b3
  split at h
  · next hed => exact hed ▸ decodeED_writtenAs (admitted_eq_ok h)
  split at h
  · next hdd => exact indexed h hdd
  split at h
  · next hfd => exact indexed h hfd
  · exact decodeBase_writtenAs (admitted_eq_ok h) b3

/-- Settles O39, table by table. -/
theorem encodeOfDecode : Obligations.EncodeOfDecode := by
  unfold Obligations.EncodeOfDecode
  exact fun _ _ _ _ _ => decode_writtenAs

end Sys2Proof
end

section
/-! The 8-bit subtraction (43_alu8.md R541) and the 16-bit arithmetic (44_alu16.md R600 to R603): what each component says. PV
of a subtraction is the one with an idea: the sign-bit rule of the spec says that the difference with borrow-in does not fit
a signed word. That holds at every width and is proved so. -/

namespace Sys2Proof.Machine

/-! ## Signed overflow of a subtraction with borrow-in -/

/-- A difference above minus the modulus is reduced by at most one addition. -/
theorem emod_eq_self_or_add {t m : Int} (hl : -m ≤ t) (hu : t < m) : 0 ≤ t ∧ t % m = t ∨ t < 0 ∧ t % m = t + m := by
  obtain h | h := lt_or_ge t 0
  · exact .inr ⟨h, by rw [← Int.add_emod_right, Int.emod_eq_of_lt (by omega) (by omega)]⟩
  · exact .inl ⟨h, Int.emod_eq_of_lt h hu⟩

/-- Operands of different sign whose difference has not the sign of the first are those whose difference with borrow-in, read
as signed, leaves the range of the width. -/
theorem msb_disagrees_iff_signed_overflow_sub {w : Nat} (a b : BitVec (w + 1)) (c : Bool) :
    (a.msb ≠ b.msb ∧ (BitVec.ofInt (w + 1) ((a.toNat : Int) - b.toNat - c.toNat)).msb ≠ a.msb) ↔
      a.toInt - b.toInt - c.toNat < -2 ^ w ∨ 2 ^ w ≤ a.toInt - b.toInt - c.toNat := by
  have ha := a.isLt
  have hb := b.isLt
  have hc := c.toNat_le
  have hwrap := emod_eq_self_or_add (t := (a.toNat : Int) - b.toNat - c.toNat) (m := (2 ^ (w + 1) : Nat)) (by omega) (by omega)
  have hpow : (2 : Int) ^ w = ((2 ^ w : Nat) : Int) := by simp
  simp only [BitVec.toInt_eq_msb_cond, BitVec.msb_eq_decide, BitVec.toNat_ofInt, Nat.add_sub_cancel, hpow,
    decide_eq_true_eq, decide_eq_decide, ne_eq]
  rw [Nat.pow_succ] at ha hb hwrap ⊢
  generalize 2 ^ w = n at ha hb hwrap ⊢
  -- The signs of the two operands; `hwrap` says whether the difference wrapped.
  split <;> split <;> omega

/-! ## The components of `sub8` -/

theorem sub8_result_toNat (a b : Byte) (c : Bool) :
    ((sub8 a b c).1.toNat : Int) = ((a.toNat : Int) - b.toNat - c.toNat) % 256 := by
  simp only [sub8, BitVec.toNat_ofInt]
  omega

theorem sub8_halfCarry_iff (a b : Byte) (c : Bool) : (sub8 a b c).2.h = true ↔ a.toNat % 16 < b.toNat % 16 + c.toNat := by
  refine decide_eq_true_iff.trans ?_
  simp only [Bits.lowNibble]
  omega

theorem sub8_carry_iff (a b : Byte) (c : Bool) : (sub8 a b c).2.c = true ↔ a.toNat < b.toNat + c.toNat := by
  simp only [sub8, decide_eq_true_eq]
  omega

/-- PV by the value: the signed difference leaves the range of a byte. -/
theorem sub8_overflow_iff_toInt (a b : Byte) (c : Bool) :
    (sub8 a b c).2.pv = true ↔ a.toInt - b.toInt - c.toNat < -128 ∨ 127 < a.toInt - b.toInt - c.toNat := by
  rw [← Int.add_one_le_iff]
  refine Iff.trans ?_ (msb_disagrees_iff_signed_overflow_sub (w := 7) a b c)
  simp [sub8, BitVec.msb_eq_getLsbD_last]

/-- Settles O2, from the components above; S, N and the copies of bits 5 and 3 are so by definition. -/
theorem subEight : Obligations.SubEight := by
  unfold Obligations.SubEight
  intro a b c
  exact ⟨sub8_result_toNat a b c, rfl, beq_iff_eq, rfl, rfl, sub8_halfCarry_iff a b c, sub8_overflow_iff_toInt a b c, rfl,
    sub8_carry_iff a b c⟩

/-! ## The components of the 16-bit operations -/

/-- Bits 5 and 3 of a word's high byte are its bits 13 and 11. -/
theorem hi_getLsbD (w : Word) {i : Nat} (hi : i < 8) : (Bits.hi w).getLsbD i = w.getLsbD (8 + i) := by
  simp [Bits.hi, hi]

theorem adc16_overflow_iff_toInt (a b : Word) (c : Bool) :
    (adc16 a b c).2.pv = true ↔ a.toInt + b.toInt + c.toNat < -32768 ∨ 32767 < a.toInt + b.toInt + c.toNat := by
  rw [← Int.add_one_le_iff]
  refine Iff.trans ?_ (msb_disagrees_iff_signed_overflow (w := 15) a b c)
  simp [adc16, BitVec.msb_eq_getLsbD_last]

theorem sbc16_result_toNat (a b : Word) (c : Bool) :
    ((sbc16 a b c).1.toNat : Int) = ((a.toNat : Int) - b.toNat - c.toNat) % 65536 := by
  simp only [sbc16, BitVec.toNat_ofInt]
  omega

theorem sbc16_halfCarry_iff (a b : Word) (c : Bool) :
    (sbc16 a b c).2.h = true ↔ a.toNat % 4096 < b.toNat % 4096 + c.toNat := by
  simp only [sbc16, decide_eq_true_eq]
  omega

theorem sbc16_carry_iff (a b : Word) (c : Bool) : (sbc16 a b c).2.c = true ↔ a.toNat < b.toNat + c.toNat := by
  simp only [sbc16, decide_eq_true_eq]
  omega

theorem sbc16_overflow_iff_toInt (a b : Word) (c : Bool) :
    (sbc16 a b c).2.pv = true ↔ a.toInt - b.toInt - c.toNat < -32768 ∨ 32767 < a.toInt - b.toInt - c.toNat := by
  rw [← Int.add_one_le_iff]
  refine Iff.trans ?_ (msb_disagrees_iff_signed_overflow_sub (w := 15) a b c)
  simp [sbc16, BitVec.msb_eq_getLsbD_last]

/-- Settles O4: the three operations in turn, from the components above; what is not named there is so by definition. -/
theorem sixteenBitArithmetic : Obligations.SixteenBitArithmetic := by
  unfold Obligations.SixteenBitArithmetic
  intro a b c old
  have bit5 (w : Word) : w.getLsbD 13 = (Bits.hi w).getLsbD 5 := (hi_getLsbD w (i := 5) (by decide)).symm
  have bit3 (w : Word) : w.getLsbD 11 = (Bits.hi w).getLsbD 3 := (hi_getLsbD w (i := 3) (by decide)).symm
  refine ⟨?add, ?adc, ?sbc⟩
  case add =>
    exact ⟨BitVec.toNat_ofNat _ 16, rfl, rfl, rfl, rfl, decide_eq_true_iff, decide_eq_true_iff, bit5 _, bit3 _⟩
  case adc =>
    exact ⟨BitVec.toNat_ofNat _ 16, rfl, beq_iff_eq, decide_eq_true_iff, adc16_overflow_iff_toInt a b c, rfl,
      decide_eq_true_iff, bit5 _, bit3 _⟩
  case sbc =>
    exact ⟨sbc16_result_toNat a b c, rfl, beq_iff_eq, sbc16_halfCarry_iff a b c, sbc16_overflow_iff_toInt a b c, rfl,
      sbc16_carry_iff a b c, bit5 _, bit3 _⟩

end Sys2Proof.Machine
end

section
/-! The flags of the logic operations (43_alu8.md R542), the flag byte and the conditions (10_state.md R110, 46_control.md R695),
and decimal adjustment (43_alu8.md R554). -/

namespace Sys2Proof.Machine

/-! ## Parity -/

/-- Parity, as a count of set bits. -/
theorem parity_eq_true_iff (v : Byte) :
    Bits.parity v = true ↔ Even (((List.range 8).filter fun i => v.getLsbD i).length) := by
  rw [Nat.even_iff, ← List.countP_eq_length_filter]
  exact beq_iff_eq

/-- Settles O3: parity is `parity_eq_true_iff`, and the rest is how `logicFlags` is written. -/
theorem logicFlagBits : Obligations.LogicFlagBits := by
  unfold Obligations.LogicFlagBits
  exact fun res _ =>
    ⟨rfl, beq_iff_eq, rfl, rfl, rfl, parity_eq_true_iff res, rfl, rfl, parity_eq_true_iff res⟩

/-! ## The flag byte -/

/-- The eight bits of a flag byte are its flags, C lowest. -/
theorem Flags.toByte_bits (fl : Flags) : (List.range 8).map fl.toByte.getLsbD = [fl.c, fl.n, fl.pv, fl.f3, fl.h, fl.f5, fl.z, fl.s] := by
  obtain ⟨s, z, f5, h, f3, pv, n, c⟩ := fl
  revert s z f5 h f3 pv n c
  decide

/-- Settles O7: the F written is read back, and each condition reads one bit of F. -/
theorem conditionCodes : Obligations.ConditionCodes := by
  unfold Obligations.ConditionCodes
  intro s fl cc
  refine ⟨rfl, ?_, fl.toByte_bits, by cases cc <;> rfl⟩
  simp only [State.setFlags, State.setReg_reg, if_true]
  exact fl.toByte_bits

/-! ## Decimal adjustment -/

/-- The byte of a number below 100 in decimal digits. -/
def bcdByte (n : Nat) : Byte := BitVec.ofNat 8 (16 * (n / 10) + n % 10)

theorem bcdByte_toNat {p l : Nat} (hp : p < 10) (hl : l < 10) : (bcdByte (10 * p + l)).toNat = 16 * p + l := by
  simp only [bcdByte, BitVec.toNat_ofNat]
  omega

/-- A number below 100 in its two digits. -/
theorem exists_digits {n : Nat} (h : n < 100) : ∃ p < 10, ∃ l < 10, n = 10 * p + l :=
  ⟨n / 10, by omega, n % 10, by omega, by omega⟩

/-- The correction of R554: 6 for each digit that is to be corrected. -/
def daaCorrection (a : Byte) (old : Flags) : Nat :=
  (if old.h = true ∨ 9 < a.toNat % 16 then 6 else 0) + (if old.c = true ∨ 153 < a.toNat then 96 else 0)

/-- `DAA` adds the correction, or subtracts it where N is set. -/
theorem daa8_result_toNat (a : Byte) (old : Flags) :
    ((daa8 a old).1.toNat : Int) =
      (if old.n then (a.toNat : Int) - daaCorrection a old else a.toNat + daaCorrection a old) % 256 := by
  have hcorr : (if old.h || decide (Bits.lowNibble a > 9) then 6 else 0) |||
      (if old.c || decide (a.toNat > 153) then 96 else 0) = daaCorrection a old := by
    simp only [daaCorrection, Bool.or_eq_true, decide_eq_true_eq, Bits.lowNibble, gt_iff_lt]
    split <;> split <;> rfl
  simp only [daa8, hcorr]
  split
  · rw [BitVec.toNat_ofInt]
    omega
  · rw [BitVec.toNat_ofNat]
    omega

theorem daa8_carry_iff (a : Byte) (old : Flags) : (daa8 a old).2.c = true ↔ old.c = true ∨ 153 < a.toNat := by
  simp [daa8]

/-- After an addition of decimal bytes, digit by digit: `u` and `v` are the carries out of the units and the tens. -/
theorem daa8_add8_bcd {x y : Nat} (hx : x < 100) (hy : y < 100) :
    let sum := add8 (bcdByte x) (bcdByte y) false
    (daa8 sum.1 sum.2).1 = bcdByte ((x + y) % 100) ∧ ((daa8 sum.1 sum.2).2.c = true ↔ 100 ≤ x + y) := by
  intro sum
  obtain ⟨p, hp, l, hl, rfl⟩ := exists_digits hx
  obtain ⟨q, hq, m, hm, rfl⟩ := exists_digits hy
  obtain ⟨u, r, hu, hr, hunits⟩ : ∃ u r, u < 2 ∧ r < 10 ∧ l + m = 10 * u + r := ⟨(l + m) / 10, (l + m) % 10, by omega⟩
  obtain ⟨v, t, hv, ht, htens⟩ : ∃ v t, v < 2 ∧ t < 10 ∧ p + q + u = 10 * v + t :=
    ⟨(p + q + u) / 10, (p + q + u) % 10, by omega⟩
  have hdigits : (10 * p + l + (10 * q + m)) % 100 = 10 * t + r := by omega
  have hsum : sum.1.toNat = _ := add8_result_toNat _ _ _
  have hhalf : sum.2.h = true ↔ _ := add8_halfCarry_iff _ _ _
  have hcarry : sum.2.c = true ↔ _ := add8_carry_iff _ _ _
  rw [bcdByte_toNat hp hl, bcdByte_toNat hq hm] at hsum hhalf hcarry
  rw [Nat.mul_add_mod, Nat.mul_add_mod, Nat.mod_eq_of_lt (by omega : l < 16), Nat.mod_eq_of_lt (by omega : m < 16)] at hhalf
  simp only [Bool.toNat_false, Nat.add_zero] at hsum hhalf hcarry
  have hwrap := mod_eq_self_or_sub (t := 16 * p + l + (16 * q + m)) (m := 256) (by omega)
  rw [← hsum] at hwrap
  constructor
  · apply BitVec.eq_of_toNat_eq
    zify
    rw [hdigits, bcdByte_toNat ht hr, daa8_result_toNat, if_neg (by simp [sum, add8])]
    simp only [daaCorrection, hhalf, hcarry]
    interval_cases u <;> interval_cases v <;> obtain h | h := hwrap <;> split <;> split <;> omega
  · rw [daa8_carry_iff, hcarry]
    omega

/-- After a subtraction of decimal bytes, digit by digit: `u` and `v` are the borrows out of the units and the tens. -/
theorem daa8_sub8_bcd {x y : Nat} (hx : x < 100) (hy : y < 100) :
    let diff := sub8 (bcdByte x) (bcdByte y) false
    (daa8 diff.1 diff.2).1 = bcdByte ((x + 100 - y) % 100) ∧ ((daa8 diff.1 diff.2).2.c = true ↔ x < y) := by
  intro diff
  obtain ⟨p, hp, l, hl, rfl⟩ := exists_digits hx
  obtain ⟨q, hq, m, hm, rfl⟩ := exists_digits hy
  obtain ⟨u, r, hu, hr, hunits⟩ : ∃ u r, u < 2 ∧ r < 10 ∧ l + 10 * u = m + r := ⟨(9 + m - l) / 10, (l + 10 - m) % 10, by omega⟩
  obtain ⟨v, t, hv, ht, htens⟩ : ∃ v t, v < 2 ∧ t < 10 ∧ p + 10 * v = q + u + t :=
    ⟨(9 + q + u - p) / 10, (p + 10 - q - u) % 10, by omega⟩
  have hdigits : (10 * p + l + 100 - (10 * q + m)) % 100 = 10 * t + r := by omega
  have hdiff : (diff.1.toNat : Int) = _ := sub8_result_toNat _ _ _
  have hhalf : diff.2.h = true ↔ _ := sub8_halfCarry_iff _ _ _
  have hcarry : diff.2.c = true ↔ _ := sub8_carry_iff _ _ _
  rw [bcdByte_toNat hp hl, bcdByte_toNat hq hm] at hdiff hhalf hcarry
  simp only [Bool.toNat_false, Nat.add_zero] at hdiff hhalf hcarry
  constructor
  · apply BitVec.eq_of_toNat_eq
    zify
    rw [hdigits, bcdByte_toNat ht hr, daa8_result_toNat, if_pos (show diff.2.n = true from rfl)]
    simp only [daaCorrection, hhalf, hcarry]
    interval_cases u <;> interval_cases v <;> split <;> split <;> omega
  · rw [daa8_carry_iff, hcarry]
    omega

/-- Settles O6: the corrected sum and difference; `DAA` keeps N, which the addition cleared and the subtraction set. -/
theorem daaCorrectsDecimal : Obligations.DaaCorrectsDecimal := by
  unfold Obligations.DaaCorrectsDecimal
  intro x y hx hy
  obtain ⟨hsum, hsumCarry⟩ := daa8_add8_bcd hx hy
  obtain ⟨hdiff, hdiffBorrow⟩ := daa8_sub8_bcd hx hy
  exact ⟨hsum, hsumCarry, rfl, hdiff, hdiffBorrow, rfl⟩

end Sys2Proof.Machine
end

section
/-! Registers, words in memory and the stack (10_state.md R103, R104; 20_memory.md R202, R203; 30_encoding.md R305, R307), and the
forms of an operand (43_alu8.md R543). -/

namespace Sys2Proof.Machine

theorem State.selector_eq (s : State) (q : RegName) : s.selector q = if q = .a ∨ q = .f then s.afSel else s.mainSel := by
  cases q <;> rfl

/-- Settles O8: a name resolves by `State.selector_eq`, a write by what `setReg` does to each cell; the tables are so by
definition. -/
theorem registerResolution : Obligations.RegisterResolution := by
  unfold Obligations.RegisterResolution
  intro s q v
  refine ⟨?_, ?_, fun bank p h => ?_, rfl, rfl, rfl, rfl, rfl, rfl, rfl, rfl, rfl, rfl, rfl⟩
  · rw [← State.selector_eq]
    rfl
  · simp
  · rw [State.physical_setReg, if_neg h]

/-- Settles O9: the two stores of a word, and of a push, are at different addresses. -/
theorem wordsAreLittleEndian : Obligations.WordsAreLittleEndian := by
  unfold Obligations.WordsAreLittleEndian
  intro s a v x
  refine ⟨?_, ?_, ?_, fun h0 h1 => ?_, ?_, ?_, ?_, fun h1 h2 => ?_, s.popped_push16 v, rfl, rfl, rfl⟩
  · simp [State.write16]
  · simp [State.write16]
  · simp [State.write16, State.read16]
  · rw [State.write16, State.write_read, if_neg h1, State.write_read, if_neg h0]
  · simp [State.push16_spec]
  · simp [State.push16_spec]
  · simp [State.push16_spec]
  · rw [State.push16_spec, State.setSp_read, State.write_read, if_neg h2, State.write_read, if_neg h1]

/-- Sign extension keeps the value read as signed (R306). -/
theorem sext_toInt (d : Byte) : (Bits.sext d).toInt = d.toInt := BitVec.toInt_signExtend_of_le (by decide)

/-- An index address is the sum of the register and the signed offset modulo 2^16 (R307). -/
theorem add_sext_toNat (w : Word) (d : Byte) :
    (w + Bits.sext d).toNat = (((w.toNat : Int) + d.toInt) % 65536).toNat := by
  rw [← sext_toInt, BitVec.toNat_add]
  generalize Bits.sext d = e
  simp only [BitVec.toInt_eq_toNat_cond]
  split <;> omega

/-- Settles O19: the forms are so by definition; the arithmetic of the address is `add_sext_toNat`. -/
theorem sourceOperandForms : Obligations.SourceOperandForms := by
  unfold Obligations.SourceOperandForms
  intro s r n d
  have haddr := And.intro (sext_toInt d) (add_sext_toNat s.ix d)
  simp only [List.forall_mem_cons, List.not_mem_nil, false_imp_iff, implies_true, and_true]
  exact ⟨⟨⟨rfl, rfl⟩, ⟨rfl, rfl⟩, ⟨rfl, rfl⟩, ⟨rfl, rfl⟩⟩,
    ⟨rfl, rfl, haddr⟩, ⟨rfl, rfl, haddr⟩, ⟨rfl, rfl, haddr⟩, ⟨rfl, rfl, haddr⟩, ⟨rfl, rfl, haddr⟩⟩

end Sys2Proof.Machine
end

section
/-! The loads, the stack and the exchanges (40_load8.md, 41_load16_stack.md, 42_exchange_block.md section 1): each instruction
runs the shared operation of its family at the cost its rule gives, and the operation's lemma gives the effect. -/

namespace Sys2Proof.Machine

/-- Settles O10: every form is `loadReg`. -/
theorem registerLoads : Obligations.RegisterLoads := by
  unfold Obligations.RegisterLoads
  intro s r r' n d nn
  simp only [List.forall_mem_cons, List.not_mem_nil, false_imp_iff, implies_true, and_true]
  exact ⟨loadReg_spec r _ 4 s, loadReg_spec r n 7 s, loadReg_spec r _ 7 s, loadReg_spec .a _ 7 s, loadReg_spec .a _ 7 s,
    loadReg_spec .a _ 13 s, loadReg_spec r _ 19 s, loadReg_spec r _ 19 s⟩

/-- Settles O11: every form is `storeByte` or `storeWord`. -/
theorem memoryStores : Obligations.MemoryStores := by
  unfold Obligations.MemoryStores
  intro s r rr n d nn
  simp only [List.forall_mem_cons, List.not_mem_nil, false_imp_iff, implies_true, and_true]
  exact ⟨⟨storeByte_spec s.hl _ 7 s, storeByte_spec s.hl n 10 s, storeByte_spec s.bc _ 7 s, storeByte_spec s.de _ 7 s,
      storeByte_spec nn _ 13 s, storeByte_spec _ _ 19 s, storeByte_spec _ _ 19 s, storeByte_spec _ n 19 s,
      storeByte_spec _ n 19 s⟩,
    storeWord_spec nn _ 16 s, storeWord_spec nn _ 20 s, storeWord_spec nn _ 20 s, storeWord_spec nn _ 20 s⟩

/-- Settles O12: the loads of A are `loadSpecial`; the loads of I and R are one update. -/
theorem specialRegisterLoads : Obligations.SpecialRegisterLoads := by
  unfold Obligations.SpecialRegisterLoads
  intro s
  simp only [List.forall_mem_cons, List.not_mem_nil, false_imp_iff, implies_true, and_true]
  exact ⟨⟨loadSpecial_spec s.iReg 9 s, loadSpecial_spec s.rReg 9 s⟩,
    ⟨_, rfl, ((Effect.Holds.refl s).setI _).withCost 9⟩, ⟨_, rfl, ((Effect.Holds.refl s).setR _).withCost 9⟩⟩

/-- Settles O13: every form is `loadRp`, `loadSp` or `loadIndex`. -/
theorem pairLoads : Obligations.PairLoads := by
  unfold Obligations.PairLoads
  intro s rr nn
  simp only [List.forall_mem_cons, List.not_mem_nil, false_imp_iff, implies_true, and_true]
  exact ⟨⟨loadRp_spec rr nn 10 s, loadRp_spec .hl _ 16 s, loadRp_spec rr _ 20 s, loadSp_spec s.hl 6 s, loadSp_spec s.ix 10 s,
      loadSp_spec s.iy 10 s⟩,
    loadIndex_spec .ix nn 14 s, loadIndex_spec .iy nn 14 s, loadIndex_spec .ix _ 20 s, loadIndex_spec .iy _ 20 s⟩

/-- Settles O14: a push is `pushWord`; a pop takes the word at SP and then writes the pair or the index register. -/
theorem stackMoves : Obligations.StackMoves := by
  unfold Obligations.StackMoves
  intro s qq word popped
  have hpop : Effect.Holds ⟨[], [], popped, s.cost⟩ s s.dropPopped := (Effect.Holds.refl s).setSp _
  simp only [List.forall_mem_cons, List.not_mem_nil, false_imp_iff, implies_true, and_true]
  exact ⟨⟨pushWord_spec _ 11 s, pushWord_spec s.ix 15 s, pushWord_spec s.iy 15 s⟩,
    ⟨_, rfl, (hpop.setQq qq word s.dropPopped_selector).withCost 10⟩, ⟨_, rfl, (hpop.setIndex .ix word).withCost 14⟩,
    ⟨_, rfl, (hpop.setIndex .iy word).withCost 14⟩⟩

/-- Settles O15: the two values are read before the first is written. -/
theorem exchanges : Obligations.Exchanges := by
  unfold Obligations.Exchanges
  intro s word
  have h := Effect.Holds.refl s
  refine ⟨⟨_, rfl, ?_⟩, ⟨_, rfl, ?_⟩, ⟨_, rfl, ((s.write16_spec s.sp s.ix).setIndex .ix word).withCost 23⟩,
    ⟨_, rfl, ((s.write16_spec s.sp s.iy).setIndex .iy word).withCost 23⟩, ⟨_, rfl, h.toggleAf.withCost 4⟩,
    ⟨_, rfl, h.toggleMain.withCost 4⟩⟩
  · have := ((((h.setReg .d (s.reg .h) rfl (by simp)).setReg .e (s.reg .l) rfl (by simp)).setReg .h (s.reg .d) rfl
      (by simp)).setReg .l (s.reg .e) rfl (by simp)).withCost 4
    simpa [State.setDe, State.setHl, State.hl, State.de, Params.cost] using this
  · exact (((s.write16_spec s.sp s.hl).setReg .h (Bits.hi word) rfl (by simp)).setReg .l (Bits.lo word) rfl
      (by simp)).withCost 19

end Sys2Proof.Machine
end

section
/-! The block transfers and searches (42_exchange_block.md section 2): an iteration's effect is that of `blockMove` or
`blockSearch`, and the repeating forms add the end of the repeating instruction. -/

namespace Sys2Proof.Machine

theorem stepBy_true (v : Word) : stepBy true v = v + 1 := rfl

theorem stepBy_false (v : Word) : stepBy false v = v + -1 := BitVec.sub_eq_add_neg v 1

/-- The end of a repeating block instruction, by the condition on which it repeats. -/
theorem Effect.Holds.repeatWhile_if {regs stores x c} {s t : State} (h : Effect.Holds ⟨regs, stores, x, c⟩ s t) (i : Instr)
    {again : Bool} {P : Prop} [Decidable P] (hP : again = true ↔ P) :
    Effect.Holds ⟨regs, stores, if P then { x with pc := t.pc - 2 } else x,
      if P then Params.cost i true else Params.cost i⟩ s (t.repeatWhile i again) := by
  have hr := h.repeatWhile i again
  cases again with
  | false =>
    rw [if_neg (fun p => Bool.false_ne_true (hP.mpr p)), if_neg (fun p => Bool.false_ne_true (hP.mpr p))]
    exact hr
  | true =>
    rw [if_pos (hP.mp rfl), if_pos (hP.mp rfl)]
    exact hr

/-- The same by the condition on which it ends. -/
theorem Effect.Holds.repeatWhile_unless {regs stores x c} {s t : State} (h : Effect.Holds ⟨regs, stores, x, c⟩ s t)
    (i : Instr) {again : Bool} {P : Prop} [Decidable P] (hP : again = true ↔ ¬P) :
    Effect.Holds ⟨regs, stores, if P then x else { x with pc := t.pc - 2 },
      if P then Params.cost i else Params.cost i true⟩ s (t.repeatWhile i again) := by
  simpa only [ite_not] using h.repeatWhile_if i hP

/-- Settles O16: an iteration is `blockMove`, up or down, and the repeating forms end where BC is 0. -/
theorem blockTransfers : Obligations.BlockTransfers := by
  unfold Obligations.BlockTransfers
  intro s v bc n f regs back cost
  have once {up step} (hstep : ∀ w, stepBy up w = w + step) :
      Effect.Holds ⟨regs step, [(s.de, v)], s.specials, s.cost⟩ s (s.blockMove up) := by
    have h := s.blockMove_spec up
    rw [hstep, hstep] at h
    exact h
  have again (i : Instr) {up step} (hstep : ∀ w, stepBy up w = w + step) :
      Effect.Holds ⟨regs step, [(s.de, v)], back, if bc = 0 then Params.cost i else Params.cost i true⟩ s
        (s.blockMoveRepeat i up) :=
    (once hstep).repeatWhile_unless i (by rw [State.blockMove_bc]; exact bne_iff_ne)
  simp only [List.forall_mem_cons, List.not_mem_nil, false_imp_iff, implies_true, and_true]
  exact ⟨⟨_, rfl, (once stepBy_true).withCost 16⟩, ⟨_, rfl, (once stepBy_false).withCost 16⟩,
    ⟨_, rfl, again .ldir stepBy_true⟩, ⟨_, rfl, again .lddr stepBy_false⟩⟩

/-! ## Searches -/

/-- A byte difference computed over the integers. -/
theorem ofInt_toNat_sub (a b : Byte) : BitVec.ofInt 8 ((a.toNat : Int) - b.toNat) = a - b := by
  apply BitVec.eq_of_toNat_eq
  rw [BitVec.toNat_ofInt, BitVec.toNat_sub]
  omega

theorem blockCompare_eq (a t : Byte) : blockCompare a t = a - t := ofInt_toNat_sub a t

/-- The half-borrow taken off the result of a search (R509). -/
theorem ofInt_toNat_sub_toNat (a : Byte) (h : Bool) :
    BitVec.ofInt 8 ((a.toNat : Int) - h.toNat) = if h then a - 1 else a := by
  cases h with
  | false => exact (ofInt_toNat_sub a 0).trans (BitVec.sub_zero a)
  | true => exact ofInt_toNat_sub a 1

/-- The flags of a search, over bytes. -/
theorem blockCompareFlags_eq (a t : Byte) (bc : Word) (old : Flags) :
    blockCompareFlags a t bc old =
      let res := a - t
      let h := decide (a.toNat % 16 < t.toNat % 16)
      let n : Byte := if h then res - 1 else res
      ⟨res.getLsbD 7, res == 0, n.getLsbD 1, h, n.getLsbD 3, bc != 0, true, old.c⟩ := by
  simp only [blockCompareFlags, blockCompare_eq, ofInt_toNat_sub_toNat]
  rfl

/-- Settles O17: an iteration is `blockSearch`, up or down, and the repeating forms go on while BC is not 0 and A differs. -/
theorem blockSearches : Obligations.BlockSearches := by
  unfold Obligations.BlockSearches
  intro s v bc res h n f regs again back cost
  have once {up step} (hstep : ∀ w, stepBy up w = w + step) :
      Effect.Holds ⟨regs step, [], s.specials, s.cost⟩ s (s.blockSearch up) := by
    have h := s.blockSearch_spec up
    rw [hstep, blockCompareFlags_eq] at h
    exact h
  have repeating (i : Instr) {up step} (hstep : ∀ w, stepBy up w = w + step) :
      Effect.Holds ⟨regs step, [], back, if again then Params.cost i true else Params.cost i⟩ s
        (s.blockSearchRepeat i up) := by
    refine (once hstep).repeatWhile_if i ?_
    rw [State.blockSearch_bc, blockCompare_eq, Bool.and_eq_true, bne_iff_ne, bne_iff_ne]
    exact and_congr_right' sub_ne_zero
  simp only [List.forall_mem_cons, List.not_mem_nil, false_imp_iff, implies_true, and_true]
  exact ⟨⟨_, rfl, (once stepBy_true).withCost 16⟩, ⟨_, rfl, (once stepBy_false).withCost 16⟩,
    ⟨_, rfl, repeating .cpir stepBy_true⟩, ⟨_, rfl, repeating .cpdr stepBy_false⟩⟩

end Sys2Proof.Machine
end

section
/-! The 8-bit and 16-bit arithmetic instructions, the rotates, the bit operations and the digit rotates (43_alu8.md, 44_alu16.md,
45_rotate_bit.md): each form runs the shared operation of its family, whose lemma gives the effect; what is left is that the
flags the operation writes are those the statement names. -/

namespace Sys2Proof.Machine

/-! ## 8-bit arithmetic and logic -/

/-- Settles O18: the forms of an operation run it on their operand. -/
theorem aluOnA : Obligations.AluOnA := by
  unfold Obligations.AluOnA
  intro s src a v c
  simp only [List.forall_mem_cons, List.not_mem_nil, false_imp_iff, implies_true, and_true, exec_addForms, exec_adcForms,
    exec_subForms, exec_sbcForms, exec_andForms, exec_xorForms, exec_orForms, exec_cpForms]
  exact ⟨⟨aluAdd_spec src false _ s, aluAdd_spec src c _ s, aluSub_spec src false _ s, aluSub_spec src c _ s,
    aluLogic_spec _ _ _ s, aluLogic_spec _ _ _ s, aluLogic_spec _ _ _ s⟩, aluCompare_spec src _ s⟩

/-- `INC m` is the addition of 1 with C kept (R552). -/
theorem inc8_eq_add8 (v : Byte) (old : Flags) : inc8 v old = ((add8 v 1 false).1, { (add8 v 1 false).2 with c := old.c }) := by
  have hh : ∀ v, (inc8 v old).2.h = (add8 v 1 false).2.h := by
    simp only [inc8, add8]
    decide
  have hpv : ∀ v, (inc8 v old).2.pv = (add8 v 1 false).2.pv := by
    simp only [inc8, add8]
    decide
  refine Prod.ext rfl ?_
  dsimp only
  rw [← hh, ← hpv]
  rfl

/-- `DEC m` is the subtraction of 1 with C kept (R553). -/
theorem dec8_eq_sub8 (v : Byte) (old : Flags) : dec8 v old = ((sub8 v 1 false).1, { (sub8 v 1 false).2 with c := old.c }) := by
  have hdiff : (v.toNat : Int) - (1 : Byte).toNat - false.toNat = v.toNat - 1 := by simp
  have hh : ∀ v : Byte, (dec8 v old).2.h = (sub8 v 1 false).2.h := by
    simp only [dec8, sub8]
    decide
  have hpv : ∀ v : Byte, (dec8 v old).2.pv = (sub8 v 1 false).2.pv := by
    simp only [dec8, sub8]
    decide
  refine Prod.ext (by simp only [dec8, sub8, hdiff]) ?_
  dsimp only
  rw [← hh, ← hpv]
  simp only [dec8, sub8, hdiff]

/-- Settles O20: `incLoc` and `decLoc`, whose flags are those of the addition and the subtraction but for C. -/
theorem incrementsAndDecrements : Obligations.IncrementsAndDecrements := by
  unfold Obligations.IncrementsAndDecrements
  intro s m v up down cost
  have hcost : m.incCost = cost := by cases m <;> rfl
  have hinc := incLoc_spec m m.incCost s
  have hdec := decLoc_spec m m.incCost s
  rw [inc8_eq_add8, hcost] at hinc
  rw [dec8_eq_sub8, hcost] at hdec
  simp only [List.forall_mem_cons, List.not_mem_nil, false_imp_iff, implies_true, and_true, exec_incForms, exec_decForms, hcost]
  exact ⟨hinc, hdec⟩

/-- `DAA` corrects over bytes (R554). -/
theorem daa8_result (a : Byte) (old : Flags) :
    let corr : Byte := (if old.h = true ∨ 9 < a.toNat % 16 then 0x06 else 0x00) |||
      (if old.c = true ∨ 0x99 < a.toNat then 0x60 else 0x00)
    (daa8 a old).1 = if old.n then a - corr else a + corr := by
  intro corr
  have hcorr : corr.toNat = daaCorrection a old := by
    simp only [corr, daaCorrection]
    split <;> split <;> rfl
  apply BitVec.eq_of_toNat_eq
  zify
  rw [daa8_result_toNat, ← hcorr]
  split
  · rw [BitVec.toNat_sub]
    omega
  · rw [BitVec.toNat_add]
    omega

/-- Settles O21: `DAA` by its result over bytes, `NEG` by the subtraction from 0, the others as they are written. -/
theorem accumulatorAndFlagOperations : Obligations.AccumulatorAndFlagOperations := by
  unfold Obligations.AccumulatorAndFlagOperations
  intro s a f low corr res daa
  have hres : (daa8 a f).1 = res := daa8_result a f
  have hc : (daa8 a f).2.c = decide (f.c = true ∨ 0x99 < a.toNat) := by simp [daa8]
  have hdaa : daa8 a f = (res, daa) := by
    refine Prod.ext hres ?_
    simp only [daa, ← hres, ← hc]
    rfl
  have both (v : Byte) (fl : Flags) (n : Nat) :
      Effect.Holds ⟨[(.a, v), (.f, fl.toByte)], [], s.specials, n⟩ s (((s.setReg .a v).setFlags fl).withCost n) :=
    (((Effect.Holds.refl s).setReg .a v rfl (by simp)).setFlags fl rfl (by simp)).withCost n
  have flags (fl : Flags) (n : Nat) :
      Effect.Holds ⟨[(.f, fl.toByte)], [], s.specials, n⟩ s ((s.setFlags fl).withCost n) :=
    ((Effect.Holds.refl s).setFlags fl rfl (by simp)).withCost n
  have hcpl : cplFlags (~~~a) f = { f with h := true, n := true, f5 := !a.getLsbD 5, f3 := !a.getLsbD 3 } := by
    simp [cplFlags]
  have hneg : (sub8 0 a false).1 = 0 - a := by
    rw [← ofInt_toNat_sub]
    simp [sub8]
  have hnegFlags : ∀ a : Byte, (sub8 0 a false).2.pv = (a == 0x80) ∧ (sub8 0 a false).2.c = (a != 0) := by decide
  refine ⟨hdaa, ⟨_, rfl, ?daa⟩, ⟨_, rfl, ?cpl⟩, ⟨_, rfl, ?neg, hnegFlags a⟩, ⟨_, rfl, flags _ 4⟩, ⟨_, rfl, flags _ 4⟩⟩
  case daa => exact hdaa ▸ both (daa8 a f).1 (daa8 a f).2 4
  case cpl => exact hcpl ▸ both (~~~a) (cplFlags (~~~a) f) 4
  case neg => exact hneg ▸ both (sub8 0 a false).1 (sub8 0 a false).2 8

/-! ## 16-bit arithmetic -/

/-- Settles O22: HL and F by `setHlFlags`, the index forms by `addIndex`, the steps of a pair by its write. -/
theorem pairArithmetic : Obligations.PairArithmetic := by
  unfold Obligations.PairArithmetic
  intro s rr x c
  have index (xy : Index) (v : Word) := ((Effect.Holds.refl s).setIndex xy v).withCost 10
  simp only [List.forall_mem_cons, List.not_mem_nil, false_imp_iff, implies_true, and_true]
  refine ⟨⟨⟨_, rfl, s.setHlFlags_spec _ _ 11⟩, ⟨_, rfl, s.setHlFlags_spec _ _ 15⟩, ⟨_, rfl, s.setHlFlags_spec _ _ 15⟩⟩,
    ⟨?ix, ?iy⟩, ⟨⟨_, rfl, (s.setRp_spec rr _).withCost 6⟩, ⟨_, rfl, (s.setRp_spec rr _).withCost 6⟩⟩,
    ⟨_, rfl, index .ix _⟩, ⟨_, rfl, index .iy _⟩, ⟨_, rfl, index .ix _⟩, ⟨_, rfl, index .iy _⟩⟩
  case ix => cases x <;> exact addIndex_spec .ix _ 15 s
  case iy => cases x <;> exact addIndex_spec .iy _ 15 s

/-! ## Rotates, shifts and bits -/

/-- Settles O23: `rotateLoc` for the CB forms, `rotateAcc` for the accumulator. -/
theorem rotatesAndShifts : Obligations.RotatesAndShifts := by
  unfold Obligations.RotatesAndShifts
  intro s op m r cost
  have hcost : m.rotCost = cost := by cases m <;> rfl
  simp only [List.forall_mem_cons, List.not_mem_nil, false_imp_iff, implies_true, and_true, exec_rotForms, hcost]
  exact ⟨rotateLoc_spec op m cost s, rotateAcc_spec .rlc 4 s, rotateAcc_spec .rrc 4 s, rotateAcc_spec .rl 4 s,
    rotateAcc_spec .rr 4 s⟩

/-- The byte with one bit set. -/
theorem one_shiftLeft_getLsbD (b : Fin 8) {i : Nat} (hi : i < 8) : ((1 : Byte) <<< b.val).getLsbD i = decide (i = b.val) := by
  have h : ∀ b i : Fin 8, ((1 : Byte) <<< b.val).getLsbD i.val = decide (i.val = b.val) := by decide
  exact h b ⟨i, hi⟩

/-- `RES` clears one bit and keeps the others. -/
theorem res_getLsbD (v : Byte) (b : Fin 8) {i : Nat} (hi : i < 8) :
    (v &&& ~~~((1 : Byte) <<< b.val)).getLsbD i = if i = b.val then false else v.getLsbD i := by
  rw [BitVec.getLsbD_and, BitVec.getLsbD_not, one_shiftLeft_getLsbD b hi]
  split <;> simp [*]

/-- `SET` sets one bit and keeps the others. -/
theorem set_getLsbD (v : Byte) (b : Fin 8) {i : Nat} (hi : i < 8) :
    (v ||| (1 : Byte) <<< b.val).getLsbD i = if i = b.val then true else v.getLsbD i := by
  rw [BitVec.getLsbD_or, one_shiftLeft_getLsbD b hi]
  split <;> simp [*]

/-- Settles O24: `bitLoc`, `resLoc` and `setLoc`; the byte that `RES` and `SET` write is given bit by bit. -/
theorem bitOperations : Obligations.BitOperations := by
  unfold Obligations.BitOperations
  intro s b m v bit cost
  have hbit : m.bitCost = cost 8 12 20 := by cases m <;> rfl
  have hrot : m.rotCost = cost 8 15 23 := by cases m <;> rfl
  have hres := resLoc_spec b m m.rotCost s
  have hset := setLoc_spec b m m.rotCost s
  simp only [List.forall_mem_cons, List.not_mem_nil, false_imp_iff, implies_true, and_true, exec_bitForms, exec_resForms,
    exec_setForms, hbit, hrot] at hres hset ⊢
  obtain ⟨t, ht, hres⟩ := hres
  obtain ⟨u, hu, hset⟩ := hset
  exact ⟨bitLoc_spec b m _ s, ⟨t, _, ht, fun i hi => res_getLsbD v b hi, hres⟩, ⟨u, _, hu, fun i hi => set_getLsbD v b hi, hset⟩⟩

/-! ## Digit rotates -/

/-- The byte of two digits. -/
def digits (hi lo : Nat) : Byte := BitVec.ofNat 8 (hi * 16 + lo)

/-- A byte put together from two digits in their places. -/
theorem digits_eq_or {hi lo : Nat} (hhi : hi < 16) (hlo : lo < 16) : digits hi lo = digits hi 0 ||| digits 0 lo := by
  have h : ∀ hi lo : Fin 16, digits hi lo = digits hi 0 ||| digits 0 lo := by decide
  exact h ⟨hi, hhi⟩ ⟨lo, hlo⟩

/-- The digits of a byte, each in each place. -/
theorem digits_of_byte : ∀ v : Byte, v <<< 4 = digits (v.toNat % 16) 0 ∧ v &&& 0xF0 = digits (v.toNat / 16) 0 ∧
    v >>> 4 = digits 0 (v.toNat / 16) ∧ v &&& 0x0F = digits 0 (v.toNat % 16) := by decide

/-- Settles O25: both are `rotateDigits`, of the digits named. -/
theorem digitRotates : Obligations.DigitRotates := by
  unfold Obligations.DigitRotates
  intro s a v
  obtain ⟨aLowUp, aHigh, -, aLow⟩ := digits_of_byte (s.reg .a)
  obtain ⟨vLowUp, -, vHighDown, vLow⟩ := digits_of_byte (s.read s.hl)
  have ha : a / 16 < 16 ∧ a % 16 < 16 := by omega
  have hv : v / 16 < 16 ∧ v % 16 < 16 := by omega
  have hrld : exec .rld s = rotateDigits (digits (v % 16) (a % 16)) (digits (a / 16) (v / 16)) 18 s := by
    rw [digits_eq_or hv.2 ha.2, digits_eq_or ha.1 hv.1, ← vLowUp, ← aLow, ← aHigh, ← vHighDown]
    rfl
  have hrrd : exec .rrd s = rotateDigits (digits (a % 16) (v / 16)) (digits (a / 16) (v % 16)) 18 s := by
    rw [digits_eq_or ha.2 hv.1, digits_eq_or ha.1 hv.2, ← aLowUp, ← vHighDown, ← aHigh, ← vLow]
    rfl
  simp only [List.forall_mem_cons, List.not_mem_nil, false_imp_iff, implies_true, and_true, hrld, hrrd]
  exact ⟨rotateDigits_spec _ _ 18 s, rotateDigits_spec _ _ 18 s⟩

end Sys2Proof.Machine
end

section
/-! Jumps, calls and returns (46_control.md), the CPU control instructions (47_io_cpu_control.md section 3) and the interrupt
entries (60_exceptions.md R910, R911, R915). -/

namespace Sys2Proof.Machine

/-! ## Jumps, calls, returns -/

/-- A jump on a condition, after other updates: `pc` at the target or where it was. -/
theorem Effect.Holds.jumpIf {regs stores x c} {s t : State} (h : Effect.Holds ⟨regs, stores, x, c⟩ s t) (P : Prop)
    [Decidable P] (a : Word) (taken kept : Nat) :
    ∃ u, (if P then jumpTo a taken t else .next (t.withCost kept)) = .next u ∧
      Effect.Holds ⟨regs, stores, { x with pc := if P then a else t.pc }, if P then taken else kept⟩ s u := by
  obtain rfl : t.specials = x := h.2.1
  by_cases hP : P
  · simp only [if_pos hP]
    exact ⟨_, rfl, (h.setPc a).withCost taken⟩
  · simp only [if_neg hP]
    exact ⟨_, rfl, h.withCost kept⟩

/-- Settles O26: a conditional jump is `jumpIf`, of the flags or of the B just written. -/
theorem jumps : Obligations.Jumps := by
  unfold Obligations.Jumps
  intro s cc nn e taken rel b
  have hb : Effect.Holds ⟨[(.b, b)], [], s.specials, s.cost⟩ s (s.setReg .b b) := (Effect.Holds.refl s).setReg .b b rfl (by simp)
  have hjp := (Effect.Holds.refl s).jumpIf (taken = true) nn 10 10
  simp only [ite_self] at hjp
  simp only [List.forall_mem_cons, List.not_mem_nil, false_imp_iff, implies_true, and_true]
  refine ⟨⟨jumpTo_spec nn 10 s, hjp, jumpTo_spec rel 12 s, (Effect.Holds.refl s).jumpIf _ rel 12 7, jumpTo_spec s.hl 4 s,
    jumpTo_spec s.ix 8 s, jumpTo_spec s.iy 8 s⟩, ?_⟩
  show ∃ t, (if b ≠ 0 then jumpTo rel 13 (s.setReg .b b) else .next ((s.setReg .b b).withCost 8)) = .next t ∧ _
  simpa only [ne_eq, ite_not, State.setReg_pc] using hb.jumpIf (b ≠ 0) rel 13 8

/-- Settles O27: a call taken is `callTo`. -/
theorem calls : Obligations.Calls := by
  unfold Obligations.Calls
  intro s cc nn p
  simp only [List.forall_mem_cons, List.not_mem_nil, false_imp_iff, implies_true, and_true]
  refine ⟨⟨callTo_spec nn 17 s, callTo_spec _ 11 s⟩, ?_⟩
  simp only [exec, execCallCcNn]
  split
  · exact callTo_spec nn 17 s
  · exact ⟨_, rfl, (Effect.Holds.refl s).withCost 10⟩

/-- Settles O28: a return taken is `returnFrom`; the returns from an interrupt are `returnFromInterrupt`. -/
theorem returns : Obligations.Returns := by
  unfold Obligations.Returns
  intro s cc back
  simp only [List.forall_mem_cons, List.not_mem_nil, false_imp_iff, implies_true, and_true]
  refine ⟨returnFrom_spec 10 s, ?_, ⟨_, rfl, s.returnFromInterrupt_spec.withCost 14⟩,
    ⟨_, rfl, s.returnFromInterrupt_spec.withCost 14⟩⟩
  simp only [exec, execRetCc]
  split
  · exact returnFrom_spec 11 s
  · exact ⟨_, rfl, (Effect.Holds.refl s).withCost 5⟩

/-! ## CPU control and interrupt entries -/

/-- Settles O32: one update of the control state each. -/
theorem cpuControl : Obligations.CpuControl := by
  unfold Obligations.CpuControl
  intro s
  have h := Effect.Holds.refl s
  simp only [List.forall_mem_cons, List.not_mem_nil, false_imp_iff, implies_true, and_true]
  exact ⟨⟨_, rfl, h.withCost 4⟩, ⟨_, rfl, (h.setHalted true).withCost 4⟩,
    ⟨_, rfl, ((h.setIff1 false).setIff2 false).withCost 4⟩, ⟨_, rfl, ((h.setIff1 true).setIff2 true).withCost 4⟩,
    ⟨_, rfl, (h.setIm .im0).withCost 8⟩, ⟨_, rfl, (h.setIm .im1).withCost 8⟩, ⟨_, rfl, (h.setIm .im2).withCost 8⟩⟩

/-- An effect from a state with the same registers, selectors and memory. -/
theorem Effect.Holds.of_source {e : Effect} {r s t : State} (h : e.Holds r t) (hreg : ∀ b q, r.physical b q = s.physical b q)
    (hsel : ∀ q, r.selector q = s.selector q) (hread : ∀ a, r.read a = s.read a) : e.Holds s t := by
  obtain ⟨hc, hs, hr, ho, hw, hm⟩ := h
  simp only [hreg, hsel, hread] at hr ho hm
  exact ⟨hc, hs, hr, ho, hw, hm⟩

/-- The word an interrupt entry pushed is the one at SP. -/
theorem State.enterInterrupt_popped (s : State) (vector : Word) (cost : Nat) : (s.enterInterrupt vector cost).popped = s.pc :=
  State.popped_push16 (((s.setHalted false).setIff1 false).refresh 1) s.pc

/-- The return from an interrupt, update by update. -/
theorem State.returnFromInterrupt_eq (s : State) :
    s.returnFromInterrupt = ((s.setPc s.popped).setSp (s.sp + 2)).setIff1 s.iff2 := rfl

/-- Settles O45: each entry is `enterInterrupt` after its own flip-flop or latch; `RETN` pops the `pc` that the entry pushed. -/
theorem interruptEntries : Obligations.InterruptEntries := by
  unfold Obligations.InterruptEntries
  intro s
  have hnmi := ((s.setNmiPending false).enterInterrupt_spec 0x0066 11).of_source (s := s) (fun _ _ => rfl)
    (s.setNmiPending_selector false) (fun _ => rfl)
  have him1 := ((s.setIff2 false).enterInterrupt_spec 0x0038 13).of_source (s := s) (fun _ _ => rfl)
    (s.setIff2_selector false) (fun _ => rfl)
  have hpc : s.acceptNmi.popped = s.pc := (s.setNmiPending false).enterInterrupt_popped _ _
  have hsp : s.acceptNmi.sp = s.sp - 2 := congrArg Specials.sp hnmi.2.1
  have hiff2 : s.acceptNmi.iff2 = s.iff2 := congrArg Specials.iff2 hnmi.2.1
  refine ⟨hnmi, him1, _, rfl, ?_⟩
  rw [State.returnFromInterrupt_eq, hpc, hsp, hiff2, sub_add_cancel]
  exact (((hnmi.setPc s.pc).setSp s.sp).setIff1 s.iff2).withCost 14

end Sys2Proof.Machine
end

section
/-! The ports (20_memory.md R220, 48_vdp.md R870 to R872) and the input/output instructions (47_io_cpu_control.md sections 1
and 2). -/

namespace Sys2Proof.Machine

/-! ## The port dispatch -/

/-- A bit of the byte a controller reads as (R870). -/
theorem State.controllerRead_getLsbD (s : State) (p : Byte) {i : Nat} (hi : i < 8) :
    (s.controllerRead p).getLsbD i = (decide (i < 7) && !(s.host.joy.get (p.getLsbD 1) s.joyMode).getLsbD i) := by
  simp [State.controllerRead, hi]

/-- The level table, by controller and mode (R870). -/
theorem JoyRaw.get_eq (j : JoyRaw) (ctrl : Bool) (mode : JoyMode) :
    j.get ctrl mode = if ctrl then if mode = .a then j.c1a else j.c1b else if mode = .a then j.c0a else j.c0b := by
  cases ctrl <;> cases mode <;> rfl

/-- Outside the VDP's family and the controller's, no read is answered. -/
theorem portOf_silent {p : Byte} (hA : p &&& 0xE0 ≠ 0xA0) (hE : p &&& 0xE0 ≠ 0xE0) :
    portOf p = .joyModeA ∨ portOf p = .joyModeB ∨ portOf p = .unmapped := by
  rw [portOf_cases, if_neg hA, if_neg hE]
  split
  · exact .inl rfl
  · split
    · exact .inr (.inl rfl)
    · exact .inr (.inr rfl)

/-- Settles O29: the device of each clause by `portOf_cases`, and what its port does. -/
theorem portDispatch : Obligations.PortDispatch := by
  unfold Obligations.PortDispatch
  intro s port v p g
  have device {d : Port} (h : (if p &&& 0xE0 = 0xA0 then (if p.getLsbD 0 then .vdpControl else .vdpData)
      else if p &&& 0xE0 = 0x80 then .joyModeA else if p &&& 0xE0 = 0xC0 then .joyModeB
      else if p &&& 0xE0 = 0xE0 then .controllerOrSound else .unmapped) = d) : portOf (Bits.lo port) = d :=
    (portOf_cases p).trans h
  refine ⟨fun hg hb => ?_, fun hg hb => State.portIn_of_vdpData (portOf_eq_vdpData hg hb), fun hg => ?_, fun hA hE => ?_,
    fun hg hb => ?_, fun hg hb => ?_, fun hg => ?_, fun hg => ?_, fun hg => ?_, fun hg => ?_⟩
  · simp only [State.portIn, device ((if_pos hg).trans (if_pos hb))]
    rfl
  · have hdev : portOf (Bits.lo port) = .controllerOrSound := device (by rw [show p &&& 0xE0 = 0xE0 from hg]; rfl)
    simp only [State.portIn, hdev, true_and]
    refine ⟨State.controllerRead_getLsbD s p (by decide), fun i hi => ?_⟩
    rw [State.controllerRead_getLsbD s _ (by omega), JoyRaw.get_eq, decide_eq_true hi, Bool.true_and]
  · obtain h | h | h := portOf_silent hA hE <;> simp only [State.portIn, p, h] <;> rfl
  · simp only [State.portOut, device ((if_pos hg).trans (if_pos hb))]
    rfl
  · have hdev : portOf (Bits.lo port) = .vdpData := portOf_eq_vdpData hg hb
    simp only [State.portOut, hdev]
    rfl
  · simp only [State.portOut, device (d := .joyModeA) (by rw [show p &&& 0xE0 = 0x80 from hg]; rfl)]
    rfl
  · simp only [State.portOut, device (d := .joyModeB) (by rw [show p &&& 0xE0 = 0xC0 from hg]; rfl)]
    rfl
  · simp only [State.portOut, device (d := .controllerOrSound) (by rw [show p &&& 0xE0 = 0xE0 from hg]; rfl)]
    rfl
  · simp only [List.mem_cons, List.not_mem_nil, or_false, not_or] at hg
    obtain ⟨hA, h8, hC, hE⟩ := hg
    simp only [State.portOut, device (d := .unmapped) (by rw [if_neg hA, if_neg h8, if_neg hC, if_neg hE])]

/-! ## Single transfers -/

/-- A port read, by the fields it leaves. -/
theorem State.portIn_holds (s : State) (port : Word) :
    Effect.Holds ⟨[], [], (s.portIn port).2.specials, s.cost⟩ s (s.portIn port).2 := by
  rw [State.portIn_specials]
  exact s.portIn_spec port

/-- A port write, by the fields it leaves. -/
theorem State.portOut_holds (s : State) (port : Word) (v : Byte) :
    Effect.Holds ⟨[], [], (s.portOut port v).specials, s.cost⟩ s (s.portOut port v) := by
  rw [State.portOut_specials]
  exact s.portOut_spec port v

/-- Settles O30: the port's effect, then the register and the flags. -/
theorem singleTransfers : Obligations.SingleTransfers := by
  unfold Obligations.SingleTransfers
  intro s r n portN v
  exact ⟨⟨_, rfl, ((s.portIn_holds portN).setReg .a _ (s.portIn_selector portN .a) (by simp)).withCost 11⟩,
    ⟨_, rfl, (((s.portIn_holds s.bc).setReg r.name v (by simp) (by simp)).setFlags _ (by simp)
      (by simp [(Reg8.name_ne_f r).symm])).withCost 12⟩,
    ⟨_, rfl, (s.portOut_holds portN _).withCost 11⟩, ⟨_, rfl, (s.portOut_holds s.bc _).withCost 12⟩⟩

/-! ## Block transfers -/

/-- B after an iteration. -/
theorem State.blockIn_reg_b (s : State) (up : Bool) : (s.blockIn up).reg .b = s.reg .b - 1 := by
  simp [State.blockIn, State.setHl, State.setFlags]

theorem State.blockOut_reg_b (s : State) (up : Bool) : (s.blockOut up).reg .b = s.reg .b - 1 := by
  simp [State.blockOut, State.setHl, State.setFlags]

/-- `pc` after an iteration. -/
theorem State.blockIn_pc (s : State) (up : Bool) : (s.blockIn up).pc = s.pc :=
  (congrArg Specials.pc (s.blockIn_spec up).2.1).trans (congrArg Specials.pc (s.portIn_specials s.bc))

theorem State.blockOut_pc (s : State) (up : Bool) : (s.blockOut up).pc = s.pc :=
  (congrArg Specials.pc (s.blockOut_spec up).2.1).trans (congrArg Specials.pc (s.portOut_specials _ _))

/-- Settles O31: an iteration is `blockIn` or `blockOut`, up or down, and the repeating forms end where B is 0. -/
theorem blockIO : Obligations.BlockIO := by
  unfold Obligations.BlockIO
  intro s b f cost back got afterIn put afterOut
  have input {up step} (hstep : ∀ w, stepBy up w = w + step) (c : Byte) (hc : (if up then s.reg .c + 1 else s.reg .c - 1) = c) :
      Effect.Holds ⟨[(.b, b)] ++ Rp.hl.regs (s.hl + step) ++ [(.f, f got (got.toNat + c.toNat))], [(s.hl, got)], afterIn,
        s.cost⟩ s (s.blockIn up) := by
    have h := s.blockIn_spec up
    rw [hstep, hc] at h
    exact h
  have output {up step} (hstep : ∀ w, stepBy up w = w + step) :
      Effect.Holds ⟨[(.b, b)] ++ Rp.hl.regs (s.hl + step) ++ [(.f, f put (put.toNat + (Bits.lo (s.hl + step)).toNat))], [],
        afterOut, s.cost⟩ s (s.blockOut up) := by
    have h := s.blockOut_spec up
    rw [hstep] at h
    exact h
  have inputs (i : Instr) {up step} (hstep : ∀ w, stepBy up w = w + step) (c : Byte)
      (hc : (if up then s.reg .c + 1 else s.reg .c - 1) = c) :=
    (input hstep c hc).repeatWhile_unless i (again := (s.blockIn up).reg .b != 0) (P := b = 0)
      (by rw [State.blockIn_reg_b]; exact bne_iff_ne)
  have outputs (i : Instr) {up step} (hstep : ∀ w, stepBy up w = w + step) :=
    (output hstep).repeatWhile_unless i (again := (s.blockOut up).reg .b != 0) (P := b = 0)
      (by rw [State.blockOut_reg_b]; exact bne_iff_ne)
  simp only [State.blockIn_pc, State.blockOut_pc] at inputs outputs
  simp only [List.forall_mem_cons, List.not_mem_nil, false_imp_iff, implies_true, and_true]
  exact ⟨⟨⟨_, rfl, (input stepBy_true _ rfl).withCost 16⟩, ⟨_, rfl, (input stepBy_false _ rfl).withCost 16⟩,
      ⟨_, rfl, inputs .inir stepBy_true _ rfl⟩, ⟨_, rfl, inputs .indr stepBy_false _ rfl⟩⟩,
    ⟨_, rfl, (output stepBy_true).withCost 16⟩, ⟨_, rfl, (output stepBy_false).withCost 16⟩,
    ⟨_, rfl, outputs .otir stepBy_true⟩, ⟨_, rfl, outputs .otdr stepBy_false⟩⟩

end Sys2Proof.Machine
end

section
/-! What every instruction keeps: it answers a next state at one of its costs, and whatever it does is made of operations that
keep the fault record, the host's levels, the time base and the display's own state, the form of the memories and the masks
of the VDP's registers. -/

namespace Sys2Proof.Machine

/-! ## Completion and cost -/

/-- Every meaning answers a next state, with the cost of its instruction set last. -/
theorem exec_eq_next_withCost (i : Instr) (s : State) :
    ∃ (u : State) (taken : Bool), exec i s = .next (u.withCost (Params.cost i taken)) := by
  cases i
  case jpCcNn cc nn | jrCcE cc e | callCcNn cc nn | retCc cc =>
    cases h : s.flags.cond cc
    · exact ⟨_, false, if_neg (by simp [h])⟩
    · exact ⟨_, true, if_pos h⟩
  case djnzE e =>
    by_cases h : s.reg .b - 1 = 0
    · exact ⟨_, false, if_neg (not_not.mpr h)⟩
    · exact ⟨_, true, if_pos h⟩
  case ldir | lddr | cpir | cpdr | inir | indr | otir | otdr => exact ⟨_, _, rfl⟩
  all_goals exact ⟨_, false, rfl⟩

theorem Params.cost_range (i : Instr) (taken : Bool) : 4 ≤ Params.cost i taken ∧ Params.cost i taken ≤ 23 := by
  cases taken <;> simp only [Params.cost] <;> split <;> decide

/-! ## Port accesses of the VDP -/

/-- What an access through a port keeps of the VDP: the display's own state, the masks and the form of VRAM. -/
structure Vdp.PortKeeps (v w : Vdp) : Prop where
  line : w.line = v.line
  fb : w.fb = v.fb
  collisionAcc : w.collisionAcc = v.collisionAcc
  modeFault : w.modeFault = v.modeFault
  masked : v.vr.Masked → w.vr.Masked
  vram : Vram.wf v.vram = true → Vram.wf w.vram = true

theorem Vdp.PortKeeps.refl (v : Vdp) : v.PortKeeps v := ⟨rfl, rfl, rfl, rfl, id, id⟩

theorem Vdp.PortKeeps.trans {u v w : Vdp} (h : u.PortKeeps v) (k : v.PortKeeps w) : u.PortKeeps w :=
  ⟨k.line.trans h.line, k.fb.trans h.fb, k.collisionAcc.trans h.collisionAcc, k.modeFault.trans h.modeFault,
    k.masked ∘ h.masked, k.vram ∘ h.vram⟩

theorem Vdp.portKeeps_controlWrite (v : Vdp) (x : Byte) : v.PortKeeps (v.controlWrite x) := by
  obtain ⟨-, hline, hfb, hcoll, hmode⟩ := v.controlWrite_frame x
  exact ⟨hline, hfb, hcoll, hmode, v.controlWrite_masked x, by rw [v.controlWrite_vram]; exact id⟩

theorem Vdp.portKeeps_dataWrite (v : Vdp) (x : Byte) : v.PortKeeps (v.dataWrite x) :=
  ⟨rfl, rfl, rfl, rfl, id, v.dataWrite_wf x⟩

/-! ## The frame of every instruction -/

/-- What every instruction keeps. -/
structure State.ExecKeeps (s t : State) : Prop where
  fault : t.fault = s.fault
  nmiPending : t.nmiPending = s.nmiPending
  iff3 : t.iff3 = s.iff3
  periodCounter : t.periodCounter = s.periodCounter
  host : t.host = s.host
  hostPlan : t.hostPlan = s.hostPlan
  vdp : s.vdp.PortKeeps t.vdp
  mem : Memory.wf s.mem = true → Memory.wf t.mem = true
  events : ∀ a, Event.vdpRange a ∈ t.events → Event.vdpRange a ∈ s.events

@[simp] theorem State.ExecKeeps.refl (s : State) : s.ExecKeeps s :=
  ⟨rfl, rfl, rfl, rfl, rfl, rfl, .refl _, id, fun _ => id⟩

section Operations
variable {s t : State}

/-! Operations on nothing it speaks of. -/

@[simp] theorem State.execKeeps_setReg (q : RegName) (v : Byte) : s.ExecKeeps (t.setReg q v) ↔ s.ExecKeeps t :=
  ⟨fun h => { h with }, fun h => { h with }⟩

@[simp] theorem State.execKeeps_setIndex (xy : Index) (v : Word) : s.ExecKeeps (t.setIndex xy v) ↔ s.ExecKeeps t :=
  ⟨fun h => { h with }, fun h => { h with }⟩

@[simp] theorem State.execKeeps_setSp (v : Word) : s.ExecKeeps (t.setSp v) ↔ s.ExecKeeps t :=
  ⟨fun h => { h with }, fun h => { h with }⟩

@[simp] theorem State.execKeeps_setPc (v : Word) : s.ExecKeeps (t.setPc v) ↔ s.ExecKeeps t :=
  ⟨fun h => { h with }, fun h => { h with }⟩

@[simp] theorem State.execKeeps_setI (v : Byte) : s.ExecKeeps (t.setI v) ↔ s.ExecKeeps t :=
  ⟨fun h => { h with }, fun h => { h with }⟩

@[simp] theorem State.execKeeps_setR (v : Byte) : s.ExecKeeps (t.setR v) ↔ s.ExecKeeps t :=
  ⟨fun h => { h with }, fun h => { h with }⟩

@[simp] theorem State.execKeeps_setIff1 (v : Bool) : s.ExecKeeps (t.setIff1 v) ↔ s.ExecKeeps t :=
  ⟨fun h => { h with }, fun h => { h with }⟩

@[simp] theorem State.execKeeps_setIff2 (v : Bool) : s.ExecKeeps (t.setIff2 v) ↔ s.ExecKeeps t :=
  ⟨fun h => { h with }, fun h => { h with }⟩

@[simp] theorem State.execKeeps_setIm (m : IntMode) : s.ExecKeeps (t.setIm m) ↔ s.ExecKeeps t :=
  ⟨fun h => { h with }, fun h => { h with }⟩

@[simp] theorem State.execKeeps_setHalted (v : Bool) : s.ExecKeeps (t.setHalted v) ↔ s.ExecKeeps t :=
  ⟨fun h => { h with }, fun h => { h with }⟩

@[simp] theorem State.execKeeps_toggleAf : s.ExecKeeps t.toggleAf ↔ s.ExecKeeps t :=
  ⟨fun h => { h with }, fun h => { h with }⟩

@[simp] theorem State.execKeeps_toggleMain : s.ExecKeeps t.toggleMain ↔ s.ExecKeeps t :=
  ⟨fun h => { h with }, fun h => { h with }⟩

@[simp] theorem State.execKeeps_setJoyMode (m : JoyMode) : s.ExecKeeps (t.setJoyMode m) ↔ s.ExecKeeps t :=
  ⟨fun h => { h with }, fun h => { h with }⟩

@[simp] theorem State.execKeeps_withCost (n : Nat) : s.ExecKeeps (t.withCost n) ↔ s.ExecKeeps t :=
  ⟨fun h => { h with }, fun h => { h with }⟩

@[simp] theorem State.execKeeps_setFlags (fl : Flags) : s.ExecKeeps (t.setFlags fl) ↔ s.ExecKeeps t := by
  simp [State.setFlags]

@[simp] theorem State.execKeeps_setBc (v : Word) : s.ExecKeeps (t.setBc v) ↔ s.ExecKeeps t := by
  simp [State.setBc]

@[simp] theorem State.execKeeps_setDe (v : Word) : s.ExecKeeps (t.setDe v) ↔ s.ExecKeeps t := by
  simp [State.setDe]

@[simp] theorem State.execKeeps_setHl (v : Word) : s.ExecKeeps (t.setHl v) ↔ s.ExecKeeps t := by
  simp [State.setHl]

@[simp] theorem State.execKeeps_setAf (v : Word) : s.ExecKeeps (t.setAf v) ↔ s.ExecKeeps t := by
  simp [State.setAf]

@[simp] theorem State.execKeeps_setRp (rr : Rp) (v : Word) : s.ExecKeeps (t.setRp rr v) ↔ s.ExecKeeps t := by
  cases rr <;> simp [State.setRp]

@[simp] theorem State.execKeeps_setQq (qq : Qq) (v : Word) : s.ExecKeeps (t.setQq qq v) ↔ s.ExecKeeps t := by
  cases qq <;> simp [State.setQq]

@[simp] theorem State.execKeeps_dropPopped : s.ExecKeeps t.dropPopped ↔ s.ExecKeeps t := by
  simp [State.dropPopped]

@[simp] theorem State.execKeeps_returnFromInterrupt : s.ExecKeeps t.returnFromInterrupt ↔ s.ExecKeeps t := by
  simp [State.returnFromInterrupt]

@[simp] theorem State.execKeeps_repeatWhile (i : Instr) (again : Bool) :
    s.ExecKeeps (t.repeatWhile i again) ↔ s.ExecKeeps t := by
  cases again <;> simp [State.repeatWhile]

/-! Operations on memory and the ports. -/

section
variable (h : s.ExecKeeps t)
include h

@[simp] theorem State.ExecKeeps.write (a : Word) (v : Byte) : s.ExecKeeps (t.write a v) :=
  { h with mem := fun hm => Memory.wf_write _ a v (h.mem hm) }

@[simp] theorem State.ExecKeeps.write16 (a v : Word) : s.ExecKeeps (t.write16 a v) := (h.write a _).write (a + 1) _

@[simp] theorem State.ExecKeeps.push16 (v : Word) : s.ExecKeeps (t.push16 v) := by
  rw [State.push16_spec, State.execKeeps_setSp]
  exact (h.write _ _).write _ _

@[simp] theorem State.ExecKeeps.writeLoc (m : Loc) (v : Byte) : s.ExecKeeps (t.writeLoc m v) := by
  cases m <;> simp [State.writeLoc, h]

theorem State.ExecKeeps.setVdp {v : Vdp} (hv : t.vdp.PortKeeps v) : s.ExecKeeps (t.setVdp v) :=
  { h with vdp := h.vdp.trans hv }

@[simp] theorem State.ExecKeeps.portIn (port : Word) : s.ExecKeeps (t.portIn port).2 := by
  simp only [State.portIn]
  split
  case h_1 => exact h.setVdp ⟨rfl, rfl, rfl, rfl, id, id⟩
  case h_2 => exact h.setVdp ⟨rfl, rfl, rfl, rfl, id, id⟩
  all_goals exact h

@[simp] theorem State.ExecKeeps.portOut (port : Word) (x : Byte) : s.ExecKeeps (t.portOut port x) := by
  simp only [State.portOut]
  split
  case h_1 => exact h.setVdp (t.vdp.portKeeps_controlWrite x)
  case h_2 => exact h.setVdp (t.vdp.portKeeps_dataWrite x)
  case h_5 =>
    refine { h with events := fun a ha => h.events a ?_ }
    simpa [State.emit] using ha
  all_goals simp [h]

@[simp] theorem State.ExecKeeps.blockMove (up : Bool) : s.ExecKeeps (t.blockMove up) := by
  simp [State.blockMove, h]

@[simp] theorem State.ExecKeeps.blockSearch (up : Bool) : s.ExecKeeps (t.blockSearch up) := by
  simp [State.blockSearch, h]

@[simp] theorem State.ExecKeeps.blockIn (up : Bool) : s.ExecKeeps (t.blockIn up) := by
  simp [State.blockIn, h]

@[simp] theorem State.ExecKeeps.blockOut (up : Bool) : s.ExecKeeps (t.blockOut up) := by
  simp [State.blockOut, h]

end

end Operations

/-- Every instruction is made of operations that keep it. -/
theorem exec_keeps {i : Instr} {s t : State} (h : exec i s = .next t) : s.ExecKeeps t := by
  cases i
  case jpCcNn | jrCcE | djnzE | callCcNn | retCc =>
    simp only [exec, execJpCcNn, execJrCcE, execDjnzE, execCallCcNn, execRetCc] at h
    split at h <;> cases h <;> simp
  case ldir | lddr | cpir | cpdr | inir | indr | otir | otdr =>
    cases h
    simp [State.blockMoveRepeat, State.blockSearchRepeat, State.blockInRepeat, State.blockOutRepeat]
  all_goals
    cases h
    simp

/-- Settles O33: completion and cost by `exec_eq_next_withCost`, the rest by `exec_keeps`. -/
theorem everyInstructionCompletes : Obligations.EveryInstructionCompletes := by
  unfold Obligations.EveryInstructionCompletes
  intro i s
  obtain ⟨u, taken, hexec⟩ := exec_eq_next_withCost i s
  obtain ⟨hlow, hhigh⟩ := Params.cost_range i taken
  have k := exec_keeps hexec
  exact ⟨_, hexec, hlow, hhigh, k.fault, k.nmiPending, k.iff3, k.periodCounter, k.vdp.line, k.vdp.fb, k.vdp.collisionAcc,
    k.vdp.modeFault, k.host, k.hostPlan⟩

end Sys2Proof.Machine
end

section
/-! Which instructions change a piece of control state (10_state.md R114 to R118): what each operation does to the fields that
are not registers or memory, and then every instruction. -/

namespace Sys2Proof.Machine

/-! ## Operations -/

@[simp] theorem State.setFlags_specials (s : State) (fl : Flags) : (s.setFlags fl).specials = s.specials := rfl

@[simp] theorem State.setBc_specials (s : State) (v : Word) : (s.setBc v).specials = s.specials := rfl

@[simp] theorem State.setDe_specials (s : State) (v : Word) : (s.setDe v).specials = s.specials := rfl

@[simp] theorem State.setHl_specials (s : State) (v : Word) : (s.setHl v).specials = s.specials := rfl

@[simp] theorem State.setRp_specials (s : State) (rr : Rp) (v : Word) :
    (s.setRp rr v).specials = rr.specials v s.specials := (s.setRp_spec rr v).2.1

@[simp] theorem State.setQq_specials (s : State) (qq : Qq) (v : Word) : (s.setQq qq v).specials = s.specials := by
  cases qq <;> rfl

@[simp] theorem State.write16_specials (s : State) (a v : Word) : (s.write16 a v).specials = s.specials := rfl

@[simp] theorem State.writeLoc_specials (s : State) (m : Loc) (v : Byte) : (s.writeLoc m v).specials = s.specials :=
  (s.writeLoc_spec m v).2.1

@[simp] theorem State.push16_specials (s : State) (v : Word) :
    (s.push16 v).specials = { s.specials with sp := s.sp - 2 } := (s.push16_holds v).2.1

@[simp] theorem State.dropPopped_specials (s : State) : s.dropPopped.specials = { s.specials with sp := s.sp + 2 } := rfl

@[simp] theorem State.returnFromInterrupt_specials (s : State) :
    s.returnFromInterrupt.specials = { s.specials with sp := s.sp + 2, pc := s.popped, iff1 := s.iff2 } := rfl

@[simp] theorem State.repeatWhile_specials (s : State) (i : Instr) (again : Bool) :
    (s.repeatWhile i again).specials = { s.specials with pc := if again then s.pc - 2 else s.pc } := by
  cases again <;> rfl

@[simp] theorem State.blockMove_specials (s : State) (up : Bool) : (s.blockMove up).specials = s.specials :=
  (s.blockMove_spec up).2.1

@[simp] theorem State.blockSearch_specials (s : State) (up : Bool) : (s.blockSearch up).specials = s.specials :=
  (s.blockSearch_spec up).2.1

@[simp] theorem State.blockIn_specials (s : State) (up : Bool) :
    (s.blockIn up).specials = { s.specials with vdp := (s.portIn s.bc).2.vdp } :=
  (s.blockIn_spec up).2.1.trans (s.portIn_specials s.bc)

/-- Writing a pair changes no control state. -/
@[simp] theorem Rp.specials_control (rr : Rp) (v : Word) (x : Specials) :
    (rr.specials v x).iReg = x.iReg ∧ (rr.specials v x).rReg = x.rReg ∧ (rr.specials v x).im = x.im ∧
    (rr.specials v x).halted = x.halted ∧ (rr.specials v x).iff1 = x.iff1 ∧ (rr.specials v x).iff2 = x.iff2 ∧
    (rr.specials v x).vdp = x.vdp ∧ (rr.specials v x).joyMode = x.joyMode ∧ (rr.specials v x).events = x.events := by
  cases rr <;> simp [Rp.specials]

/-- Writing an index register changes no control state. -/
@[simp] theorem Specials.withIndex_control (xy : Index) (v : Word) (x : Specials) :
    (x.withIndex xy v).iReg = x.iReg ∧ (x.withIndex xy v).rReg = x.rReg ∧ (x.withIndex xy v).im = x.im ∧
    (x.withIndex xy v).halted = x.halted ∧ (x.withIndex xy v).iff1 = x.iff1 ∧ (x.withIndex xy v).iff2 = x.iff2 ∧
    (x.withIndex xy v).vdp = x.vdp ∧ (x.withIndex xy v).joyMode = x.joyMode ∧ (x.withIndex xy v).events = x.events := by
  cases xy <;> simp [Specials.withIndex]

/-! ## Instructions -/

/-- Settles O36, by cases on the instruction: what it leaves of each field follows from the operations it is made of. -/
theorem controlStateWriters : Obligations.ControlStateWriters := by
  unfold Obligations.ControlStateWriters
  intro i s t h
  show (t.specials.iReg ≠ s.specials.iReg → _) ∧ (t.specials.rReg ≠ s.specials.rReg → _) ∧ (t.specials.im ≠ s.specials.im → _) ∧
    (t.specials.halted ≠ s.specials.halted → _) ∧ (t.specials.iff1 ≠ s.specials.iff1 → _) ∧
    (t.specials.iff2 ≠ s.specials.iff2 → _) ∧ (t.specials.vdp ≠ s.specials.vdp ∨ t.specials.joyMode ≠ s.specials.joyMode ∨
      t.specials.events ≠ s.specials.events → _)
  cases i
  case jpCcNn | jrCcE | djnzE | callCcNn | retCc =>
    simp only [exec, execJpCcNn, execJrCcE, execDjnzE, execCallCcNn, execRetCc] at h
    split at h <;> cases h <;> simp
  case ldir | lddr | cpir | cpdr | inir | indr =>
    cases h
    simp [State.blockMoveRepeat, State.blockSearchRepeat, State.blockInRepeat]
  case outi | outd | otir | otdr =>
    cases h
    simp [State.blockOutRepeat, (s.blockOut_spec _).2.1, State.portOut_specials]
  all_goals
    cases h
    simp [State.portIn_specials, State.portOut_specials]

end Sys2Proof.Machine
end

section
/-! The bank a selector does not choose (10_state.md R104): replacing a register there changes no value an instruction reads,
and it can be done before or after any operation of one. -/

namespace Sys2Proof.Machine

/-- Writes of two registers can be exchanged. -/
theorem Bank.set_comm {p q : RegName} (h : p ≠ q) (k : Bank) (x y : Byte) :
    (k.set p x).set q y = (k.set q y).set p x := by
  cases p <;> cases q <;> simp_all [Bank.set]

section Hidden
variable {s : State} {bank : Bool} {q : RegName} {v : Byte}

/-! ## Operations on no register -/

@[simp] theorem State.setPhysical_selector (p : RegName) : (s.setPhysical bank q v).selector p = s.selector p := by
  cases p <;> rfl

theorem State.setPhysical_physical (b : Bool) (p : RegName) :
    (s.setPhysical bank q v).physical b p = if b = bank ∧ p = q then v else s.physical b p := by
  cases b <;> cases bank <;> simp [State.physical, State.setPhysical]

/-- Replacing a register and then another is the same in either order. -/
theorem State.setPhysical_comm {b : Bool} {p : RegName} {w : Byte} (hne : ¬(b = bank ∧ p = q)) :
    (s.setPhysical bank q v).setPhysical b p w = (s.setPhysical b p w).setPhysical bank q v := by
  cases b <;> cases bank
  case false.true | true.false => rfl
  all_goals
    have hpq : q ≠ p := fun e => hne ⟨rfl, e.symm⟩
    simp [State.setPhysical, Bank.set_comm hpq]

/-- A register write replaces the register in the bank its selector chooses. -/
theorem State.setReg_eq_setPhysical (p : RegName) (w : Byte) : s.setReg p w = s.setPhysical (s.selector p) p w := rfl

@[simp] theorem State.setPhysical_fields :
    (s.setPhysical bank q v).ix = s.ix ∧ (s.setPhysical bank q v).iy = s.iy ∧ (s.setPhysical bank q v).sp = s.sp ∧
    (s.setPhysical bank q v).pc = s.pc ∧ (s.setPhysical bank q v).iReg = s.iReg ∧
    (s.setPhysical bank q v).rReg = s.rReg ∧ (s.setPhysical bank q v).iff2 = s.iff2 ∧
    (s.setPhysical bank q v).vdp = s.vdp :=
  ⟨rfl, rfl, rfl, rfl, rfl, rfl, rfl, rfl⟩

@[simp] theorem State.setPhysical_read (a : Word) : (s.setPhysical bank q v).read a = s.read a := rfl

@[simp] theorem State.setPhysical_read16 (a : Word) : (s.setPhysical bank q v).read16 a = s.read16 a := rfl

@[simp] theorem State.setPhysical_popped : (s.setPhysical bank q v).popped = s.popped := rfl

@[simp] theorem State.setPhysical_index (xy : Index) : (s.setPhysical bank q v).index xy = s.index xy := by
  cases xy <;> rfl

@[simp] theorem State.setPhysical_indexAddr (xy : Index) (d : Byte) :
    (s.setPhysical bank q v).indexAddr xy d = s.indexAddr xy d := by
  simp [State.indexAddr]

@[simp] theorem State.setPhysical_relTarget (e : Byte) : (s.setPhysical bank q v).relTarget e = s.relTarget e := rfl

@[simp] theorem State.setIndex_setPhysical (xy : Index) (w : Word) :
    (s.setPhysical bank q v).setIndex xy w = (s.setIndex xy w).setPhysical bank q v := rfl

@[simp] theorem State.setSp_setPhysical (w : Word) :
    (s.setPhysical bank q v).setSp w = (s.setSp w).setPhysical bank q v := rfl

@[simp] theorem State.setPc_setPhysical (w : Word) :
    (s.setPhysical bank q v).setPc w = (s.setPc w).setPhysical bank q v := rfl

@[simp] theorem State.setI_setPhysical (w : Byte) :
    (s.setPhysical bank q v).setI w = (s.setI w).setPhysical bank q v := rfl

@[simp] theorem State.setR_setPhysical (w : Byte) :
    (s.setPhysical bank q v).setR w = (s.setR w).setPhysical bank q v := rfl

@[simp] theorem State.setIff1_setPhysical (w : Bool) :
    (s.setPhysical bank q v).setIff1 w = (s.setIff1 w).setPhysical bank q v := rfl

@[simp] theorem State.setIff2_setPhysical (w : Bool) :
    (s.setPhysical bank q v).setIff2 w = (s.setIff2 w).setPhysical bank q v := rfl

@[simp] theorem State.setIm_setPhysical (m : IntMode) :
    (s.setPhysical bank q v).setIm m = (s.setIm m).setPhysical bank q v := rfl

@[simp] theorem State.setHalted_setPhysical (w : Bool) :
    (s.setPhysical bank q v).setHalted w = (s.setHalted w).setPhysical bank q v := rfl

@[simp] theorem State.setVdp_setPhysical (w : Vdp) :
    (s.setPhysical bank q v).setVdp w = (s.setVdp w).setPhysical bank q v := rfl

@[simp] theorem State.setJoyMode_setPhysical (m : JoyMode) :
    (s.setPhysical bank q v).setJoyMode m = (s.setJoyMode m).setPhysical bank q v := rfl

@[simp] theorem State.emit_setPhysical (es : List Event) :
    (s.setPhysical bank q v).emit es = (s.emit es).setPhysical bank q v := rfl

@[simp] theorem State.withCost_setPhysical (n : Nat) :
    (s.setPhysical bank q v).withCost n = (s.withCost n).setPhysical bank q v := rfl

@[simp] theorem State.toggleAf_setPhysical :
    (s.setPhysical bank q v).toggleAf = s.toggleAf.setPhysical bank q v := rfl

@[simp] theorem State.toggleMain_setPhysical :
    (s.setPhysical bank q v).toggleMain = s.toggleMain.setPhysical bank q v := rfl

@[simp] theorem State.write_setPhysical (a : Word) (w : Byte) :
    (s.setPhysical bank q v).write a w = (s.write a w).setPhysical bank q v := rfl

@[simp] theorem State.write16_setPhysical (a w : Word) :
    (s.setPhysical bank q v).write16 a w = (s.write16 a w).setPhysical bank q v := rfl

@[simp] theorem State.push16_setPhysical (w : Word) :
    (s.setPhysical bank q v).push16 w = (s.push16 w).setPhysical bank q v := rfl

@[simp] theorem State.dropPopped_setPhysical :
    (s.setPhysical bank q v).dropPopped = s.dropPopped.setPhysical bank q v := rfl

@[simp] theorem State.returnFromInterrupt_setPhysical :
    (s.setPhysical bank q v).returnFromInterrupt = s.returnFromInterrupt.setPhysical bank q v := rfl

@[simp] theorem State.repeatWhile_setPhysical (i : Instr) (again : Bool) :
    (s.setPhysical bank q v).repeatWhile i again = (s.repeatWhile i again).setPhysical bank q v := by
  cases again <;> rfl

@[simp] theorem State.portIn_setPhysical (port : Word) :
    (s.setPhysical bank q v).portIn port = ((s.portIn port).1, (s.portIn port).2.setPhysical bank q v) := by
  simp only [State.portIn]
  split <;> rfl

@[simp] theorem State.portOut_setPhysical (port : Word) (x : Byte) :
    (s.setPhysical bank q v).portOut port x = (s.portOut port x).setPhysical bank q v := by
  simp only [State.portOut]
  split <;> rfl

/-! ## Operations on registers -/

variable (h : bank ≠ s.selector q)
include h

@[simp] theorem State.setPhysical_reg (p : RegName) : (s.setPhysical bank q v).reg p = s.reg p := by
  have hp : ¬(s.selector p = bank ∧ p = q) := by
    rintro ⟨rfl, rfl⟩
    exact h rfl
  simp only [State.reg, State.setPhysical_selector, State.setPhysical_physical, if_neg hp]

@[simp] theorem State.setReg_setPhysical (p : RegName) (w : Byte) :
    (s.setPhysical bank q v).setReg p w = (s.setReg p w).setPhysical bank q v := by
  have hp : ¬(s.selector p = bank ∧ p = q) := by
    rintro ⟨rfl, rfl⟩
    exact h rfl
  rw [State.setReg_eq_setPhysical, State.setReg_eq_setPhysical, State.setPhysical_selector, State.setPhysical_comm hp]

@[simp] theorem State.setPhysical_bc : (s.setPhysical bank q v).bc = s.bc := by simp [State.bc, h]

@[simp] theorem State.setPhysical_de : (s.setPhysical bank q v).de = s.de := by simp [State.de, h]

@[simp] theorem State.setPhysical_hl : (s.setPhysical bank q v).hl = s.hl := by simp [State.hl, h]

@[simp] theorem State.setPhysical_af : (s.setPhysical bank q v).af = s.af := by simp [State.af, h]

@[simp] theorem State.setPhysical_flags : (s.setPhysical bank q v).flags = s.flags := by simp [State.flags, h]

@[simp] theorem State.setPhysical_rp (rr : Rp) : (s.setPhysical bank q v).rp rr = s.rp rr := by
  cases rr <;> simp [State.rp, h]

@[simp] theorem State.setPhysical_qq (qq : Qq) : (s.setPhysical bank q v).qq qq = s.qq qq := by
  cases qq <;> simp [State.qq, h]

@[simp] theorem State.setPhysical_rpX (xy : Index) (rr : RpX) : (s.setPhysical bank q v).rpX xy rr = s.rpX xy rr := by
  cases rr <;> simp [State.rpX, h]

@[simp] theorem State.setPhysical_portN (n : Byte) : (s.setPhysical bank q v).portN n = s.portN n := by
  simp [State.portN, h]

@[simp] theorem State.setPhysical_readLoc (m : Loc) : (s.setPhysical bank q v).readLoc m = s.readLoc m := by
  cases m <;> simp [State.readLoc, h]

@[simp] theorem State.setPhysical_readSrc (src : Src) : (s.setPhysical bank q v).readSrc src = s.readSrc src := by
  cases src <;> simp [State.readSrc, h]

@[simp] theorem State.setFlags_setPhysical (fl : Flags) :
    (s.setPhysical bank q v).setFlags fl = (s.setFlags fl).setPhysical bank q v := by
  simp [State.setFlags, h]

@[simp] theorem State.setBc_setPhysical (w : Word) :
    (s.setPhysical bank q v).setBc w = (s.setBc w).setPhysical bank q v := by
  simp [State.setBc, h]

@[simp] theorem State.setDe_setPhysical (w : Word) :
    (s.setPhysical bank q v).setDe w = (s.setDe w).setPhysical bank q v := by
  simp [State.setDe, h]

@[simp] theorem State.setHl_setPhysical (w : Word) :
    (s.setPhysical bank q v).setHl w = (s.setHl w).setPhysical bank q v := by
  simp [State.setHl, h]

@[simp] theorem State.setAf_setPhysical (w : Word) :
    (s.setPhysical bank q v).setAf w = (s.setAf w).setPhysical bank q v := by
  simp [State.setAf, h]

@[simp] theorem State.setRp_setPhysical (rr : Rp) (w : Word) :
    (s.setPhysical bank q v).setRp rr w = (s.setRp rr w).setPhysical bank q v := by
  cases rr <;> simp [State.setRp, h]

@[simp] theorem State.setQq_setPhysical (qq : Qq) (w : Word) :
    (s.setPhysical bank q v).setQq qq w = (s.setQq qq w).setPhysical bank q v := by
  cases qq <;> simp [State.setQq, h]

@[simp] theorem State.writeLoc_setPhysical (m : Loc) (w : Byte) :
    (s.setPhysical bank q v).writeLoc m w = (s.writeLoc m w).setPhysical bank q v := by
  cases m <;> simp [State.writeLoc, h]

@[simp] theorem State.blockMove_setPhysical (up : Bool) :
    (s.setPhysical bank q v).blockMove up = (s.blockMove up).setPhysical bank q v := by
  simp [State.blockMove, h]

@[simp] theorem State.blockSearch_setPhysical (up : Bool) :
    (s.setPhysical bank q v).blockSearch up = (s.blockSearch up).setPhysical bank q v := by
  simp [State.blockSearch, h]

@[simp] theorem State.blockIn_setPhysical (up : Bool) :
    (s.setPhysical bank q v).blockIn up = (s.blockIn up).setPhysical bank q v := by
  simp [State.blockIn, h]

@[simp] theorem State.blockOut_setPhysical (up : Bool) :
    (s.setPhysical bank q v).blockOut up = (s.blockOut up).setPhysical bank q v := by
  simp [State.blockOut, h]

end Hidden

/-! ## Instructions -/

/-- Settles O35, by cases on the instruction: the replacement is moved outward through the operations it is made of. -/
theorem hiddenBankIsIsolated : Obligations.HiddenBankIsIsolated := by
  unfold Obligations.HiddenBankIsIsolated
  intro i s t bank q v hq h
  cases i
  case jpCcNn | jrCcE | djnzE | callCcNn | retCc =>
    simp only [exec, execJpCcNn, execJrCcE, execDjnzE, execCallCcNn, execRetCc, State.setPhysical_flags hq,
      State.setPhysical_reg hq] at h ⊢
    split at h
    · next hc =>
      cases h
      rw [if_pos hc]
      simp [jumpTo, callTo, returnFrom, hq]
    · next hc =>
      cases h
      rw [if_neg hc]
      simp [hq]
  case ldir | lddr | cpir | cpdr | inir | indr | otir | otdr =>
    cases h
    change Host.Outcome.next _ = Host.Outcome.next _
    simp [State.blockMoveRepeat, State.blockSearchRepeat, State.blockInRepeat, State.blockOutRepeat, hq]
  all_goals
    cases h
    change Host.Outcome.next _ = Host.Outcome.next _
    simp [hq]

end Sys2Proof.Machine
end

section
/-! What the decoder rejects (30_encoding.md R320, R321, 60_exceptions.md R921), and the refreshes of an instruction (R303). -/

namespace Sys2Proof

open Machine

/-! ## Rejected encodings -/

/-- Only the four prefixes have no base instruction (R320). -/
theorem decodeBase_eq_none {op b1 b2 : Byte} (h : decodeBase op b1 b2 = none) :
    op = 0xCB ∨ op = 0xED ∨ op = 0xDD ∨ op = 0xFD := by
  have hx := Bits.fieldX_lt op
  have hy := Bits.fieldY_lt op
  have hz := Bits.fieldZ_lt op
  rw [← Bits.opcode_fields op]
  simp only [decodeBase] at h
  generalize Bits.fieldX op = x at *
  generalize Bits.fieldY op = y at *
  generalize Bits.fieldZ op = z at *
  interval_cases x
  · cases h
  · cases h
  · cases h
  · interval_cases z <;> interval_cases y <;> cases h <;> decide

/-- Every entry of a table is admitted; a missing one is the reject. -/
theorem admitted_eq_error {entry : Option Instr} {reject e : Reject} (h : admitted entry reject = .error e) :
    entry = none ∧ e = reject := by
  cases entry <;> cases h
  exact ⟨rfl, rfl⟩

/-- The bytes a reject after 0xDD or 0xFD reports. -/
theorem decodeIndexed_error {xy : Index} {p b1 b2 b3 : Byte} {e : Reject} (h : decodeIndexed xy p b1 b2 b3 = .error e) :
    b1 ≠ 0xCB ∧ e.bytes = [p, b1] ∨ b1 = 0xCB ∧ e.bytes = [p, b1, b2, b3] := by
  simp only [decodeIndexed] at h
  split at h
  · next hcb =>
    obtain ⟨-, rfl⟩ := admitted_eq_error h
    exact .inr ⟨hcb, by rw [hcb]; rfl⟩
  · next hcb =>
    cases xy with
    | ix | iy =>
      obtain ⟨-, rfl⟩ := admitted_eq_error h
      exact .inl ⟨hcb, rfl⟩

/-- Settles O40: the base and the CB table are complete, and a missing entry of the others reports its bytes. -/
theorem rejectedEncodings : Obligations.RejectedEncodings := by
  unfold Obligations.RejectedEncodings
  intro b0 b1 b2 b3 e h
  simp only [decode] at h
  split at h
  · cases h
  split at h
  · next hed =>
    obtain ⟨-, rfl⟩ := admitted_eq_error h
    exact .inl ⟨hed, by rw [hed]; rfl⟩
  split at h
  · next hdd => exact .inr ((decodeIndexed_error h).imp (⟨.inl hdd, ·⟩) (⟨.inl hdd, ·⟩))
  split at h
  · next hfd => exact .inr ((decodeIndexed_error h).imp (⟨.inr hfd, ·⟩) (⟨.inr hfd, ·⟩))
  · next hcb hed hdd hfd =>
    obtain ⟨hnone, -⟩ := admitted_eq_error h
    rcases decodeBase_eq_none hnone with h0 | h0 | h0 | h0 <;> contradiction

/-! ## Words written out -/

/-- Settles O37: each word is the encoding of a well-formed instruction, which `decodeOfEncode` reads back. -/
theorem sampleWordsDecode : Obligations.SampleWordsDecode := by
  unfold Obligations.SampleWordsDecode
  exact ⟨decodeOfEncode (.ldRR .b .c) [] rfl, decodeOfEncode (.ldAtHlN 0xAB) [] rfl,
    decodeOfEncode (.ldIydN 0x7F 0x5A) [] rfl, decodeOfEncode (.ldRrAtNn .de 0x7010) [] rfl,
    decodeOfEncode (.pushQq .af) [] rfl, decodeOfEncode .ldir [] rfl, decodeOfEncode (.addIxd 1) [] rfl,
    decodeOfEncode (.addIyRr .de) [] rfl, decodeOfEncode (.rrIxd 5) [] rfl, decodeOfEncode (.bitR 7 .h) [] rfl,
    decodeOfEncode (.jrCcE .c 0xFC) [] rfl, decodeOfEncode (.rst 0x28) [] rfl, decodeOfEncode (.inRC .d) [] rfl,
    decodeOfEncode .im2 [] rfl⟩

/-! ## Refreshes -/

/-- A refresh keeps bit 7 of R. -/
theorem refreshed_bit7 (r : Byte) (k : Nat) : (refreshed r k).getLsbD 7 = r.getLsbD 7 := by
  have hr := r.isLt
  simp only [refreshed, BitVec.getLsbD, BitVec.toNat_ofNat, Nat.testBit_eq_decide_div_mod_eq]
  congr 2
  omega

/-- A refresh counts in the low 7 bits of R. -/
theorem refreshed_low7 (r : Byte) (k : Nat) : (refreshed r k).toNat % 128 = (r.toNat % 128 + k) % 128 := by
  have hr := r.isLt
  simp only [refreshed, BitVec.toNat_ofNat]
  omega

/-- An instruction refreshes twice exactly where its first byte is 0xCB, 0xED, 0xDD or 0xFD. -/
theorem Instr.refreshes_eq (i : Instr) : i.refreshes =
    if (encode i).headD 0 = 0xCB ∨ (encode i).headD 0 = 0xED ∨ (encode i).headD 0 = 0xDD ∨ (encode i).headD 0 = 0xFD then 2
    else 1 := by
  cases i
  case ldRR r r' => cases r <;> cases r' <;> rfl
  case ldRN r _ | ldRAtHl r | ldAtHlR r | addR r | adcR r | subR r | sbcR r | andR r | xorR r | orR r | cpR r | incR r | decR r =>
    cases r <;> rfl
  case ldRrNn rr _ | addHlRr rr | incRr rr | decRr rr | pushQq rr | popQq rr => cases rr <;> rfl
  case jpCcNn cc _ | jrCcE cc _ | callCcNn cc _ | retCc cc => cases cc <;> rfl
  case rst p =>
    revert p
    decide
  all_goals rfl

/-- Settles O41. -/
theorem refreshCounts : Obligations.RefreshCounts := by
  unfold Obligations.RefreshCounts
  exact ⟨fun r k => ⟨refreshed_bit7 r k, refreshed_low7 r k⟩, Instr.refreshes_eq⟩

end Sys2Proof
end

section
/-! The step's priorities and the time base (60_exceptions.md R900, R901, R930). -/

namespace Sys2Proof.Machine

/-! ## The CPU step, by its priorities -/

/-- Without a fault, a step is the CPU step and the end of the system step. -/
theorem step_of_cpuStep {s t : State} (hf : s.fault = none) (h : s.cpuStep = .next t) : step s = .next t.endStep := by
  simp only [step, State.systemStep, hf, h]

theorem step_of_fault {s : State} {record : FaultRecord} (hf : s.fault = some record) : step s = .fault (.stopped record) := by
  simp only [step, State.systemStep, hf]

section
variable {s : State}

theorem State.cpuStep_nmi (hn : s.nmiPending = true) : s.cpuStep = .next s.acceptNmi := if_pos hn

variable (hn : s.nmiPending = false)
include hn

theorem State.cpuStep_maskable (hi : (s.host.int && s.iff1) = true) : s.cpuStep = .next s.maskableStep := by
  simp only [State.cpuStep, hn, hi, Bool.false_eq_true, if_false, if_true]

theorem State.cpuStep_idle (hi : (s.host.int && s.iff1) = false) (hh : s.halted = true) : s.cpuStep = .next s.idleStep := by
  simp only [State.cpuStep, hn, hi, hh, Bool.false_eq_true, if_false, if_true]

theorem State.cpuStep_fetch (hi : (s.host.int && s.iff1) = false) (hh : s.halted = false) : s.cpuStep = s.fetchStep := by
  simp only [State.cpuStep, hn, hi, hh, Bool.false_eq_true, if_false]

end

theorem State.fetchStep_ok {s : State} {i : Instr} (h : s.decodeAtPc = .ok i) :
    s.fetchStep = exec i (s.afterFetch i) := by
  simp only [State.fetchStep, h]

theorem State.fetchStep_error {s : State} {e : Reject} (h : s.decodeAtPc = .error e) :
    s.fetchStep = .next (s.raiseFault (.unimplementedOpcode s.pc e.bytes)) := by
  simp only [State.fetchStep, h]

/-- Settles O42. -/
theorem stepRunsDecoded : Obligations.StepRunsDecoded := by
  unfold Obligations.StepRunsDecoded
  intro s t i hf hn hi hh hdec hexec
  refine step_of_cpuStep hf ?_
  rw [State.cpuStep_fetch hn hi hh, State.fetchStep_ok hdec]
  exact hexec

/-! ## The end of a step -/

/-- The step that records a fault ends there. -/
theorem State.endStep_raiseFault (s : State) (record : FaultRecord) :
    (s.raiseFault record).endStep = s.raiseFault record := rfl

/-- The host's next levels: the head of the plan. -/
theorem State.nextInputs_eq (s : State) :
    s.nextInputs = { s with host := s.hostPlan.headD s.host, hostPlan := s.hostPlan.tail } := by
  simp only [State.nextInputs]
  split
  · next h =>
    have hhead : s.hostPlan.headD s.host = s.host := by rw [h]; rfl
    have htail : s.hostPlan.tail = s.hostPlan := by rw [h]; rfl
    rw [hhead, htail]
  · next h => simp only [h, List.headD_cons, List.tail_cons]

/-- A tick leaves the host's levels alone. -/
theorem State.tick_host (s : State) : s.tick.host = s.host ∧ s.tick.hostPlan = s.hostPlan := by
  rw [s.tick_frame]
  exact ⟨rfl, rfl⟩

/-- So does the time base. -/
theorem State.updateTimeBase_host (s : State) :
    s.updateTimeBase.host = s.host ∧ s.updateTimeBase.hostPlan = s.hostPlan := by
  simp only [State.updateTimeBase]
  split
  · exact State.tick_host _
  · exact ⟨rfl, rfl⟩

/-- The end of a step without a fault: the time base, then the host's next levels. -/
theorem State.endStep_eq {s : State} (hf : s.fault = none) :
    s.endStep = { s.updateTimeBase with host := s.hostPlan.headD s.host, hostPlan := s.hostPlan.tail } := by
  obtain ⟨hhost, hplan⟩ := s.updateTimeBase_host
  rw [State.endStep, hf, State.nextInputs_eq, hhost, hplan]
  rfl

/-- Settles O43. -/
theorem timeBase : Obligations.TimeBase := by
  unfold Obligations.TimeBase
  exact fun t hf => State.endStep_eq hf

/-- Settles O44. -/
theorem stepPriorities : Obligations.StepPriorities := by
  unfold Obligations.StepPriorities
  intro s
  refine ⟨fun record hf => step_of_fault hf, fun hf hn => step_of_cpuStep hf (State.cpuStep_nmi hn),
    fun hf hn hint hiff => ?_, fun hf hn hi hh => step_of_cpuStep hf (State.cpuStep_idle hn hi hh),
    fun hf hn hi hh e he => ?_⟩
  · rw [step_of_cpuStep hf (State.cpuStep_maskable hn (by rw [hint, hiff]; rfl)), State.maskableStep]
    split
    · rfl
    · rw [State.endStep_raiseFault]
      rfl
  · rw [step_of_cpuStep hf ((State.cpuStep_fetch hn hi hh).trans (State.fetchStep_error he)), State.endStep_raiseFault]
    rfl

/-- The idle costs nothing, so it never exhausts the period. -/
theorem State.idleStep_updateTimeBase {s : State} (h : 1 ≤ s.periodCounter) : s.idleStep.updateTimeBase = s.idleStep := by
  have hp : s.periodCounter - ((0 : Nat) : Int) = s.periodCounter := sub_zero _
  simp only [State.updateTimeBase, State.idleStep, State.withCost, Params.haltIdleCost, hp]
  rw [if_neg (by omega)]

/-- Settles O46: the idle costs nothing, so no tick runs. -/
theorem haltCanHang : Obligations.HaltCanHang := by
  unfold Obligations.HaltCanHang
  intro s hinv hf hn hi hh
  refine ⟨_, step_of_cpuStep hf (State.cpuStep_idle hn hi hh), ?_⟩
  rw [State.endStep_eq (s := s.idleStep) hf, State.idleStep_updateTimeBase hinv.period.1]
  rfl

end Sys2Proof.Machine
end

section
/-! The VDP's ports (48_vdp.md R811 to R815). -/

namespace Sys2Proof.Machine

/-! ## Control and data writes -/

theorem Vdp.controlWrite_first {v : Vdp} (hl : v.latch = false) (x : Byte) :
    v.controlWrite x = { v with vaddr := v.vaddr.extractLsb' 8 6 ++ x, latch := true } := if_pos hl

theorem Vdp.controlWrite_register {v : Vdp} (hl : v.latch = true) {x : Byte} (h7 : x.getLsbD 7 = true) :
    v.controlWrite x = { v with latch := false }.writeReg (Fin.ofNat 8 x.toNat) (v.vaddr.extractLsb' 0 8) := by
  simp only [Vdp.controlWrite, hl, h7, Bool.true_eq_false, if_false, if_true]

theorem Vdp.controlWrite_address {v : Vdp} (hl : v.latch = true) {x : Byte} (h7 : x.getLsbD 7 = false) :
    v.controlWrite x =
      if x.getLsbD 6 then { v with latch := false, vaddr := x.extractLsb' 0 6 ++ v.vaddr.extractLsb' 0 8 }
      else { v with
        latch := false
        vaddr := x.extractLsb' 0 6 ++ v.vaddr.extractLsb' 0 8 + 1
        readAhead := Vram.read v.vram (x.extractLsb' 0 6 ++ v.vaddr.extractLsb' 0 8).toNat } := by
  simp only [Vdp.controlWrite, hl, h7, Bool.true_eq_false, Bool.false_eq_true, if_false]
  rfl

/-- The masks of R803 by register number. -/
theorem Params.vdpRegMask_eq (n : Fin 8) :
    Params.vdpRegMask n = ([0x03, 0xFB, 0x0F, 0xFF, 0x07, 0x7F, 0x07, 0xFF] : List Byte)[n] := by
  revert n
  decide

/-- Settles O47. -/
theorem portWrites : Obligations.PortWrites := by
  unfold Obligations.PortWrites
  intro v x
  refine ⟨fun hl => Vdp.controlWrite_first hl x, fun hl h7 n hn => ?_, fun hl h7 a ha => ?_, ?_, fun a => ?_⟩
  · obtain rfl : Fin.ofNat 8 x.toNat = n := Fin.ext hn.symm
    rw [Vdp.controlWrite_register hl h7]
    refine ⟨?_, fun m hm => ?_, rfl⟩
    · rw [← Params.vdpRegMask_eq]
      simp only [Vdp.writeReg, VdpRegs.get_set, if_true]
      rfl
    · simp only [Vdp.writeReg, VdpRegs.get_set, if_neg hm]
  · rw [ha]
    exact Vdp.controlWrite_address hl h7
  · have h : v.vaddr + 1 = BitVec.ofNat 14 (v.vaddr.toNat + 1) := by bv_omega
    rw [← h]
    rfl
  · exact Vram.read_write _ _ _ _

/-! ## The round trip (R815) -/

/-- The second byte of an address as written for a read (R811): its six bits, bits 7 and 6 clear. -/
theorem addressHigh_read : ∀ h : BitVec 6, (h.setWidth 8 : Byte).getLsbD 7 = false ∧
    (h.setWidth 8 : Byte).getLsbD 6 = false ∧ (h.setWidth 8 : Byte).extractLsb' 0 6 = h := by decide

/-- The second byte of an address as written for a write (R811): its six bits, bit 7 clear, bit 6 set. -/
theorem addressHigh_write : ∀ h : BitVec 6, (h.setWidth 8 ||| 0x40 : Byte).getLsbD 7 = false ∧
    (h.setWidth 8 ||| 0x40 : Byte).getLsbD 6 = true ∧ (h.setWidth 8 ||| 0x40 : Byte).extractLsb' 0 6 = h := by decide

/-- The high bits of an address and the low byte stored by the first write make the address. -/
theorem addressBytes (a : BitVec 14) (b : BitVec 6) :
    a.extractLsb' 8 6 ++ (b ++ (a.setWidth 8 : Byte)).extractLsb' 0 8 = a := by
  apply BitVec.eq_of_getLsbD_eq
  intro i hi
  rw [BitVec.getLsbD_append, BitVec.getLsbD_extractLsb', BitVec.getLsbD_append, BitVec.getLsbD_extractLsb']
  by_cases h : i < 8
  · simp [h]
  · have hlow : 8 + (i - 8) = i := by omega
    have hhigh : i - 8 < 6 := by omega
    simp [h, hlow, hhigh]

/-- Setting the address to write. -/
theorem Vdp.setAddress_write {v : Vdp} (hl : v.latch = false) (a : BitVec 14) :
    (v.controlWrite (a.setWidth 8)).controlWrite ((a.extractLsb' 8 6).setWidth 8 ||| 0x40) =
      { v with latch := false, vaddr := a } := by
  obtain ⟨h7, h6, hx⟩ := addressHigh_write (a.extractLsb' 8 6)
  rw [Vdp.controlWrite_first hl, Vdp.controlWrite_address rfl h7, if_pos h6, hx]
  exact congrArg (fun w : BitVec 14 => { v with latch := false, vaddr := w }) (addressBytes a _)

/-- Setting the address to read. -/
theorem Vdp.setAddress_read {v : Vdp} (hl : v.latch = false) (a : BitVec 14) :
    (v.controlWrite (a.setWidth 8)).controlWrite ((a.extractLsb' 8 6).setWidth 8) =
      { v with latch := false, vaddr := a + 1, readAhead := Vram.read v.vram a.toNat } := by
  obtain ⟨h7, h6, hx⟩ := addressHigh_read (a.extractLsb' 8 6)
  rw [Vdp.controlWrite_first hl, Vdp.controlWrite_address rfl h7, if_neg (by rw [h6]; decide), hx]
  exact congrArg (fun w : BitVec 14 => { v with latch := false, vaddr := w + 1, readAhead := Vram.read v.vram w.toNat })
    (addressBytes a _)

/-- Settles O49. -/
theorem vramRoundTrip : Obligations.VramRoundTrip := by
  unfold Obligations.VramRoundTrip
  intro v a x hl low high written ready
  have hw : written = { v with latch := false, vaddr := a }.dataWrite x :=
    congrArg (Vdp.dataWrite · x) (Vdp.setAddress_write hl a)
  have hlatch : written.latch = false := by rw [hw]; rfl
  have hread (b : Nat) : Vram.read written.vram b = if b = a.toNat then x else Vram.read v.vram b := by
    rw [hw]
    exact Vram.read_write _ _ _ _
  have hr : ready = { written with latch := false, vaddr := a + 1, readAhead := Vram.read written.vram a.toNat } :=
    Vdp.setAddress_read hlatch a
  rw [hr]
  exact ⟨by rw [hw]; rfl, (hread _).trans (if_pos rfl), rfl, rfl, by rw [hw]; rfl, hread⟩

end Sys2Proof.Machine
end

section
/-! The display's tables and modes (48_vdp.md R804, R820, R842, R855, R856). -/

namespace Sys2Proof.Machine

theorem toNat_and_7F (x : Byte) : (x &&& 0x7F).toNat = x.toNat % 128 := Nat.and_two_pow_sub_one_eq_mod _ 7

theorem toNat_and_07 (x : Byte) : (x &&& 0x07).toNat = x.toNat % 8 := Nat.and_two_pow_sub_one_eq_mod _ 3

/-- The table bases of Graphics II are the upper or the lower half of VRAM. -/
theorem halfTable : ∀ x : Byte, (x &&& 0x80).toNat * 0x40 = (if x.getLsbD 7 then 0x2000 else 0) ∧
    (x &&& 0x04).toNat * 0x800 = (if x.getLsbD 2 then 0x2000 else 0) := by decide

theorem VdpRegs.rawMode_eq (vr : VdpRegs) : vr.rawMode =
    BitVec.ofBool (vr.r1.getLsbD 4) ++ BitVec.ofBool (vr.r1.getLsbD 3) ++ BitVec.ofBool (vr.r0.getLsbD 1) := by
  simp only [VdpRegs.rawMode]
  cases vr.r1.getLsbD 4 <;> cases vr.r1.getLsbD 3 <;> cases vr.r0.getLsbD 1 <;> rfl

theorem VdpRegs.displayMode_eq (vr : VdpRegs) : vr.displayMode =
    if vr.r1.getLsbD 4 || vr.r1.getLsbD 3 then
      .other (BitVec.ofBool (vr.r1.getLsbD 4) ++ BitVec.ofBool (vr.r1.getLsbD 3) ++ BitVec.ofBool (vr.r0.getLsbD 1))
    else if vr.r0.getLsbD 1 then .g2 else .g1 := by
  rw [VdpRegs.displayMode, VdpRegs.rawMode_eq]
  cases vr.r1.getLsbD 4 <;> cases vr.r1.getLsbD 3 <;> cases vr.r0.getLsbD 1 <;> rfl

/-- Settles O50. -/
theorem displayModes : Obligations.DisplayModes := by
  unfold Obligations.DisplayModes
  intro vr fb i k x y m1 m2 m3
  have hattributes : vr.spriteAttributes = vr.r5.toNat % 128 * 128 := congrArg (· * 128) (toNat_and_7F vr.r5)
  exact ⟨vr.displayMode_eq, congrArg (· * 1024) (toNat_and_7F vr.r2), rfl, (halfTable vr.r3).1,
    congrArg (· * 2048) (toNat_and_07 vr.r4), (halfTable vr.r4).2, hattributes, congrArg (· * 2048) (toNat_and_07 vr.r6),
    congrArg (· + 4 * i + k) hattributes, rfl, fun n => by fin_cases n <;> rfl, rfl, rfl, rfl⟩

end Sys2Proof.Machine
end

section
/-! Construction and reset (70_reset_and_hazards.md R1000, R1003, R1004). -/

namespace Sys2Proof.Machine

/-- An alpha byte's offset is 3 modulo 4, and no other byte of a pixel is. -/
theorem FrameBuffer.offset_mod (x y : Nat) : FrameBuffer.offset x y % 4 = 0 := Nat.mul_mod_right _ _

/-- Settles O59. -/
theorem resetHasInvariant : Obligations.ResetHasInvariant where
  mem := rfl
  vram := rfl
  fb := rfl
  masked := by decide
  line := by decide
  period := by decide
  alpha x y := by
    have h := FrameBuffer.offset_mod x y
    show (if (FrameBuffer.offset x y + 3) % 4 = 3 then Config.alpha else 0) = 255
    rw [if_pos (by omega)]
    rfl
  inRange _ := List.not_mem_nil

/-- Settles O56. -/
theorem resetValues : Obligations.ResetValues := by
  unfold Obligations.ResetValues
  refine ⟨fun bank q => ?_, rfl, by decide, rfl, rfl, rfl, rfl, fun _ => rfl, rfl, rfl, rfl, fun x y => ?_, fun _ => rfl, rfl⟩
  · cases bank <;> cases q <;> rfl
  have h := FrameBuffer.offset_mod x y
  simp only [FrameBuffer.pixel, FrameBuffer.read, State.reset, Vdp.reset, Cells.read, FrameBuffer.unlisted]
  simp [Nat.add_mod, h, Config.alpha]

/-- Reset keeps the colours of a pixel and sets its alpha to 255. -/
theorem Vdp.resetFrom_pixel (v : Vdp) (x y : Nat) : FrameBuffer.pixel v.resetFrom.fb x y =
    ((FrameBuffer.pixel v.fb x y).1, (FrameBuffer.pixel v.fb x y).2.1, (FrameBuffer.pixel v.fb x y).2.2.1, 255) := by
  have h := FrameBuffer.offset_mod x y
  simp only [FrameBuffer.pixel, FrameBuffer.read, Vdp.resetFrom, Cells.read_clear]
  simp [Nat.add_mod, h, FrameBuffer.unlisted, Config.alpha]

/-- Reset clears the RAM window and keeps every other byte of memory. -/
theorem State.resetFrom_read (s : State) (a : Word) :
    s.resetFrom.read a = if 0x6000 ≤ a.toNat ∧ a.toNat ≤ 0x7FFF then 0 else s.read a := by
  simp [State.read, Memory.read, State.resetFrom, Cells.read_clear, Params.inRamWindow, Memory.unlisted]

/-- Settles O57. -/
theorem resetOfARunningMachine : Obligations.ResetOfARunningMachine := by
  unfold Obligations.ResetOfARunningMachine
  exact fun s => ⟨s.resetFrom_read, s.vdp.resetFrom_pixel, rfl⟩

/-- Loading bytes: each at its address, every other address as before. -/
theorem Cells.read_load (u : Nat → Byte) (bytes : List Byte) (cells : List Host.Cell) (a b : Nat) :
    Cells.read u (Cells.load u cells a bytes) b =
      if a ≤ b ∧ b < a + bytes.length then bytes.getD (b - a) 0 else Cells.read u cells b := by
  induction bytes generalizing cells a with
  | nil => simp [Cells.load]
  | cons v rest ih =>
    rw [Cells.load, ih, Cells.read_write, List.length_cons]
    by_cases hb : b = a
    · subst hb
      rw [if_neg (by omega), if_pos rfl, if_pos (by omega), Nat.sub_self, List.getD_cons_zero]
    · rw [if_neg hb]
      by_cases hin : a + 1 ≤ b ∧ b < a + 1 + rest.length
      · have hsub : b - a = (b - (a + 1)) + 1 := by omega
        rw [if_pos hin, if_pos (by omega), hsub, List.getD_cons_succ]
      · rw [if_neg hin, if_neg (by omega)]

/-- The machine constructed from two images, before its reset (R1004). -/
def State.loaded (boot cart : List Byte) : State :=
  { State.reset with mem := Cells.load Memory.unlisted (Cells.load Memory.unlisted [] 0 boot) Config.cartBase cart }

theorem State.construct_eq (boot cart : List Byte) : State.construct boot cart =
    if boot.length ≤ 8192 ∧ cart.length ≤ 32768 then some (State.loaded boot cart).resetFrom else none := rfl

section
variable {boot cart : List Byte} (hb : boot.length ≤ 8192)
include hb

/-- Memory as constructed: the boot ROM, the cartridge, and zeros. -/
theorem State.loaded_read (a : Word) : (State.loaded boot cart).resetFrom.read a =
    if a.toNat < boot.length then boot.getD a.toNat 0
    else if 0x8000 ≤ a.toNat then cart.getD (a.toNat - 0x8000) 0 else 0 := by
  have ha := a.isLt
  have hread : (State.loaded boot cart).read a =
      if 0x8000 ≤ a.toNat ∧ a.toNat < 0x8000 + cart.length then cart.getD (a.toNat - 0x8000) 0
      else if a.toNat < boot.length then boot.getD a.toNat 0 else 0 := by
    simp [State.loaded, State.read, Memory.read, Cells.read_load, Config.cartBase, Cells.read, Memory.unlisted]
  rw [State.resetFrom_read, hread]
  by_cases hboot : a.toNat < boot.length
  · rw [if_neg (by omega), if_neg (by omega), if_pos hboot, if_pos hboot]
  by_cases hcart : 0x8000 ≤ a.toNat
  · rw [if_neg (by omega), if_neg hboot, if_neg hboot, if_pos hcart]
    by_cases hend : a.toNat < 0x8000 + cart.length
    · rw [if_pos ⟨hcart, hend⟩]
    · rw [if_neg (by omega), List.getD_eq_default _ _ (by omega)]
  · rw [if_neg (c := 0x8000 ≤ a.toNat ∧ a.toNat < 0x8000 + cart.length) (by omega), if_neg hboot, if_neg hboot,
      if_neg hcart, ite_self]

/-- Construction meets the invariant. -/
theorem State.loaded_inv (hc : cart.length ≤ 32768) : (State.loaded boot cart).resetFrom.Inv := by
  have hboot : Memory.wf (Cells.load Memory.unlisted [] 0 boot) = true :=
    Cells.wf_load _ _ _ _ _ rfl (by simp only [Config.memSize]; omega)
  have hcart : Memory.wf (State.loaded boot cart).mem = true :=
    Cells.wf_load _ _ _ _ _ hboot (by simp only [Config.memSize, Config.cartBase]; omega)
  exact { resetHasInvariant with mem := Cells.wf_clear _ _ _ _ hcart }

end

/-- Settles O58. -/
theorem construction : Obligations.Construction := by
  unfold Obligations.Construction
  refine fun boot cart => ⟨fun h => ?_, fun hb hc => ?_⟩
  · rw [State.construct_eq, if_neg (by omega)]
  · exact ⟨_, by rw [State.construct_eq, if_pos ⟨hb, hc⟩], State.loaded_inv hb hc, rfl, State.loaded_read hb⟩

end Sys2Proof.Machine
end

section
/-! Drawing a list of pixels of a line (48_vdp.md R850), and the background of a line as one (R840, R841). -/

namespace Sys2Proof.Machine

/-! ## Lists of pixels -/

/-- The canvas after plotting, in order, columns of line `L` with their colours. -/
def Canvas.plots (k : Canvas) (vr : VdpRegs) (L : Nat) (ps : List (Nat × BitVec 4)) : Canvas :=
  ps.foldl (fun k p => k.plot vr p.1 L p.2) k

section
variable (vr : VdpRegs) (L : Nat)

@[simp] theorem Canvas.plots_nil (k : Canvas) : k.plots vr L [] = k := rfl

@[simp] theorem Canvas.plots_cons (k : Canvas) (p : Nat × BitVec 4) (ps : List (Nat × BitVec 4)) :
    k.plots vr L (p :: ps) = (k.plot vr p.1 L p.2).plots vr L ps := rfl

@[simp] theorem Canvas.plots_log (k : Canvas) (ps : List (Nat × BitVec 4)) : (k.plots vr L ps).log = k.log := by
  induction ps generalizing k with
  | nil => rfl
  | cons p ps ih => rw [Canvas.plots_cons, ih, Canvas.plot_log]

@[simp] theorem Canvas.plots_alpha (k : Canvas) (ps : List (Nat × BitVec 4)) (px py : Nat) :
    FrameBuffer.read (k.plots vr L ps).fb (FrameBuffer.offset px py + 3) =
      FrameBuffer.read k.fb (FrameBuffer.offset px py + 3) := by
  induction ps generalizing k with
  | nil => rfl
  | cons p ps ih => rw [Canvas.plots_cons, ih, Canvas.plot_alpha]

/-- Pixels inside the frame keep the frame buffer's canonical form. -/
theorem Canvas.plots_wf (hL : L < 192) {ps : List (Nat × BitVec 4)} (hps : ∀ p ∈ ps, p.1 < 256) (k : Canvas)
    (h : FrameBuffer.wf k.fb = true) : FrameBuffer.wf (k.plots vr L ps).fb = true := by
  induction ps generalizing k with
  | nil => exact h
  | cons p ps ih =>
    rw [List.forall_mem_cons] at hps
    exact ih hps.2 _ (Canvas.plot_wf k vr p.1 L p.2 hps.1 hL h)

/-- A pixel that is not plotted is kept. -/
theorem Canvas.plots_pixel_other {ps : List (Nat × BitVec 4)} (hps : ∀ p ∈ ps, p.1 < 256) {x y : Nat} (hx : x < 256)
    (h : y = L → ∀ p ∈ ps, p.1 ≠ x) (k : Canvas) :
    FrameBuffer.pixel (k.plots vr L ps).fb x y = FrameBuffer.pixel k.fb x y := by
  induction ps generalizing k with
  | nil => rfl
  | cons p ps ih =>
    rw [List.forall_mem_cons] at hps
    have hp : ¬(x = p.1 ∧ y = L) := fun ⟨hpx, hy⟩ => h hy p List.mem_cons_self hpx.symm
    rw [Canvas.plots_cons, ih hps.2 fun hy q hq => h hy q (List.mem_cons_of_mem p hq)]
    exact Canvas.plot_pixel_other k vr p.1 L p.2 x y hps.1 hx hp

/-- A plotted column shows its colour, where it has only one. -/
theorem Canvas.plots_shows {ps : List (Nat × BitVec 4)} (hps : ∀ p ∈ ps, p.1 < 256) {x : Nat} {c : BitVec 4}
    (hmem : ∃ p ∈ ps, p.1 = x) (hc : ∀ p ∈ ps, p.1 = x → p.2 = c) (k : Canvas)
    (ha : FrameBuffer.read k.fb (FrameBuffer.offset x L + 3) = 255) :
    ShowsColour (k.plots vr L ps).fb x L (vr.shown c) := by
  induction ps generalizing k with
  | nil => simp at hmem
  | cons p ps ih =>
    rw [List.forall_mem_cons] at hps hc
    by_cases hlater : ∃ q ∈ ps, q.1 = x
    · exact ih hps.2 hlater hc.2 _ (by rw [Canvas.plot_alpha, ha])
    · have hlater : ∀ q ∈ ps, q.1 ≠ x := fun q hq hqx => hlater ⟨q, hq, hqx⟩
      have hp : p.1 = x := by
        obtain ⟨q, hq, hqx⟩ := hmem
        rcases List.mem_cons.mp hq with rfl | hq
        · exact hqx
        · exact absurd hqx (hlater q hq)
      have hx : x < 256 := hp ▸ hps.1
      have hkept := Canvas.plots_pixel_other vr L (y := L) hps.2 hx (fun _ => hlater) (k.plot vr p.1 L p.2)
      rw [Canvas.plots_cons, ShowsColour, hkept, hc.1 hp, hp]
      exact Canvas.plot_pixel k vr x L c ha

end

/-! ## The background -/

/-- The pixels of column `col` with its pattern row and colour byte. -/
def columnPixels (col : Nat) (bits colour : Byte) : List (Nat × BitVec 4) :=
  (List.range 8).map fun b => (col * 8 + b, if bits.getLsbD (7 - b) then colour.extractLsb' 4 4 else colour.extractLsb' 0 4)

theorem Canvas.plotColumn_eq (k : Canvas) (vr : VdpRegs) (col L : Nat) (bits colour : Byte) :
    k.plotColumn vr col L bits colour = k.plots vr L (columnPixels col bits colour) := by
  simp only [Canvas.plotColumn, Canvas.plots, columnPixels, List.foldl_map]

/-- The pixels of a background line. -/
def backgroundPixels (bits colour : Nat → Byte) : List (Nat × BitVec 4) :=
  (List.range 32).flatMap fun col => columnPixels col (bits col) (colour col)

theorem mem_backgroundPixels {bits colour : Nat → Byte} {p : Nat × BitVec 4} :
    p ∈ backgroundPixels bits colour ↔
      p.1 < 256 ∧ p.2 = backgroundNibble (bits (p.1 / 8)) (colour (p.1 / 8)) p.1 := by
  obtain ⟨x, c⟩ := p
  simp only [backgroundPixels, columnPixels, List.mem_flatMap, List.mem_map, List.mem_range, Prod.mk.injEq]
  constructor
  · rintro ⟨col, hcol, b, hb, rfl, rfl⟩
    have hdiv : (col * 8 + b) / 8 = col := by omega
    have hmod : (col * 8 + b) % 8 = b := by omega
    rw [backgroundNibble, hdiv, hmod]
    exact ⟨by omega, rfl⟩
  · rintro ⟨hx, rfl⟩
    exact ⟨x / 8, by omega, x % 8, by omega, by omega, rfl⟩

/-- A background line's pixels show, in every column, the nibble of its cell's pattern row and colour byte. -/
theorem backgroundPixels_shows (vr : VdpRegs) (L : Nat) (bits colour : Nat → Byte) {x : Nat} (hx : x < 256) (k : Canvas)
    (ha : FrameBuffer.read k.fb (FrameBuffer.offset x L + 3) = 255) :
    ShowsColour (k.plots vr L (backgroundPixels bits colour)).fb x L
      (vr.shown (backgroundNibble (bits (x / 8)) (colour (x / 8)) x)) := by
  refine Canvas.plots_shows vr L (fun p hp => (mem_backgroundPixels.mp hp).1)
    ⟨(x, backgroundNibble (bits (x / 8)) (colour (x / 8)) x), mem_backgroundPixels.mpr ⟨hx, rfl⟩, rfl⟩ ?_ k ha
  rintro ⟨_, c⟩ hp rfl
  exact (mem_backgroundPixels.mp hp).2

/-- The pattern and colour addresses of Graphics I stay in range. -/
theorem g1Addrs_lt (vr : VdpRegs) (L : Nat) (name : Byte) :
    (g1Addrs vr L name).1 < Config.vramSize ∧ (g1Addrs vr L name).2 < Config.vramSize := by
  have hname := name.isLt
  have h3 := vr.r3.isLt
  have h4 : (vr.r4 &&& 0x07).toNat ≤ 7 := Nat.and_le_right
  simp only [g1Addrs, VdpRegs.patternTable1, VdpRegs.colourTable1, Config.vramSize]
  omega

/-- So do those of Graphics II on an active line. -/
theorem g2Addrs_lt (vr : VdpRegs) {L : Nat} (hL : L < 192) (name : Byte) :
    (g2Addrs vr L name).1 < Config.vramSize ∧ (g2Addrs vr L name).2 < Config.vramSize := by
  have hname := name.isLt
  have h3 : (vr.r3 &&& 0x80).toNat ≤ 128 := Nat.and_le_right
  have h4 : (vr.r4 &&& 0x04).toNat ≤ 4 := Nat.and_le_right
  simp only [g2Addrs, VdpRegs.patternTable2, VdpRegs.colourTable2, Config.vramSize]
  omega

/-- The pattern row of a column, at the address its name gives. -/
def Vdp.columnBits (v : Vdp) (addrs : VdpRegs → Nat → Byte → Nat × Nat) (L col : Nat) : Byte :=
  Vram.read v.vram (addrs v.vr L (Vram.read v.vram (nameAddr v.vr L col))).1

/-- The colour byte of a column, at the address its name gives. -/
def Vdp.columnColour (v : Vdp) (addrs : VdpRegs → Nat → Byte → Nat × Nat) (L col : Nat) : Byte :=
  Vram.read v.vram (addrs v.vr L (Vram.read v.vram (nameAddr v.vr L col))).2

/-- The pixels of a background line whose pattern and colour bytes lie at `addrs`. -/
def Vdp.linePixels (v : Vdp) (addrs : VdpRegs → Nat → Byte → Nat × Nat) (L : Nat) : List (Nat × BitVec 4) :=
  backgroundPixels (v.columnBits addrs L) (v.columnColour addrs L)

theorem Vdp.linePixels_lt (v : Vdp) (addrs : VdpRegs → Nat → Byte → Nat × Nat) (L : Nat) :
    ∀ p ∈ v.linePixels addrs L, p.1 < 256 := fun _ hp => (mem_backgroundPixels.mp hp).1

section
variable {v : Vdp} (hv : v.vr.Masked) {L : Nat} (hL : L < 192)
include hv hL

/-- Where its addresses are in range, the background is the line's pixels. -/
theorem Vdp.drawBackground_eq {addrs : VdpRegs → Nat → Byte → Nat × Nat}
    (ha : ∀ name, (addrs v.vr L name).1 < Config.vramSize ∧ (addrs v.vr L name).2 < Config.vramSize) (k : Canvas) :
    v.drawBackground addrs L k = k.plots v.vr L (v.linePixels addrs L) := by
  simp only [Vdp.drawBackground, Canvas.plots, Vdp.linePixels, backgroundPixels, List.foldl_flatMap]
  refine List.foldl_ext _ _ k fun k col hcol => ?_
  have hname := v.fetch_ok _ (nameAddr_lt v.vr hv L col hL (List.mem_range.mp hcol))
  obtain ⟨hbits, hcolour⟩ := ha (Vram.read v.vram (nameAddr v.vr L col))
  have hbytes : v.columnBytes addrs L col = .ok (v.columnBits addrs L col, v.columnColour addrs L col) := by
    simp only [Vdp.columnBytes, hname, bind, Except.bind, v.fetch_ok _ hbits, v.fetch_ok _ hcolour]
    rfl
  rw [Vdp.drawColumn, hbytes]
  exact Canvas.plotColumn_eq k v.vr col L _ _

theorem Vdp.background_g1 (hmode : v.vr.displayMode = .g1) (k : Canvas) :
    v.background L k = (v, k.plots v.vr L (v.linePixels g1Addrs L)) := by
  simp only [Vdp.background, hmode, Vdp.drawBackground_eq hv hL (g1Addrs_lt v.vr L) k]
  rfl

theorem Vdp.background_g2 (hmode : v.vr.displayMode = .g2) (k : Canvas) :
    v.background L k = (v, k.plots v.vr L (v.linePixels g2Addrs L)) := by
  simp only [Vdp.background, hmode, Vdp.drawBackground_eq hv hL (g2Addrs_lt v.vr hL) k]
  rfl

/-- The background of an active line is a list of pixels inside the frame, in any mode. -/
theorem Vdp.background_plots (k : Canvas) :
    ∃ ps : List (Nat × BitVec 4), (∀ p ∈ ps, p.1 < 256) ∧ (v.background L k).2 = k.plots v.vr L ps := by
  cases hmode : v.vr.displayMode with
  | g1 => exact ⟨_, v.linePixels_lt g1Addrs L, by rw [Vdp.background_g1 hv hL hmode]⟩
  | g2 => exact ⟨_, v.linePixels_lt g2Addrs L, by rw [Vdp.background_g2 hv hL hmode]⟩
  | other raw => exact ⟨[], by simp, by rw [v.background_other L k hmode, Canvas.plots_nil]⟩

end

/-- Settles O52. -/
theorem backgroundRows : Obligations.BackgroundRows := by
  unfold Obligations.BackgroundRows
  intro v L x y hv hL hx ha name out
  obtain ⟨ps, hps, hout⟩ := Vdp.background_plots hv hL ⟨v.fb, []⟩
  change out = _ at hout
  refine ⟨fun raw hmode => v.background_other L _ hmode, v.background_drawn L _, fun hmode => ?_, fun hmode => ?_,
    fun hy => ?_, ?_⟩
  · show ShowsColour (v.background L ⟨v.fb, []⟩).2.fb x L _
    rw [Vdp.background_g1 hv hL hmode]
    exact backgroundPixels_shows v.vr L (v.columnBits g1Addrs L) (v.columnColour g1Addrs L) hx ⟨v.fb, []⟩ (ha x L)
  · have hthird : L / 64 = L / 64 % 4 := by omega
    show ShowsColour (v.background L ⟨v.fb, []⟩).2.fb x L _
    rw [Vdp.background_g2 hv hL hmode, hthird]
    exact backgroundPixels_shows v.vr L (v.columnBits g2Addrs L) (v.columnColour g2Addrs L) hx ⟨v.fb, []⟩ (ha x L)
  · rw [hout]
    exact Canvas.plots_pixel_other v.vr L hps hx (fun h => absurd h hy) _
  · rw [hout, Canvas.plots_log]

end Sys2Proof.Machine
end

section
/-! The sprite scan of a line (48_vdp.md R843) as one equation, and what each visible entry draws (R844 to R846). -/

namespace Sys2Proof.Machine

/-! ## The scan -/

/-- The entry's Y byte is not the terminator. -/
def Vdp.continues (v : Vdp) (i : Nat) : Bool := Vram.read v.vram (v.vr.spriteAttributes + 4 * i) != 208

/-- The visible entries before the first terminator, from `n` entries at index `a`. -/
def Vdp.seen (v : Vdp) (L a n : Nat) : List Nat := ((List.range' a n).takeWhile v.continues).filter (v.isVisible L)

section
variable {v : Vdp} {L a n : Nat}

theorem Vdp.seen_stop (h : v.continues a = false) : v.seen L a (n + 1) = [] := by
  simp [Vdp.seen, List.range'_succ, h]

theorem Vdp.seen_hidden (h : v.continues a = true) (hvis : v.isVisible L a = false) :
    v.seen L a (n + 1) = v.seen L (a + 1) n := by
  simp [Vdp.seen, List.range'_succ, h, hvis]

theorem Vdp.seen_visible (h : v.continues a = true) (hvis : v.isVisible L a = true) :
    v.seen L a (n + 1) = a :: v.seen L (a + 1) n := by
  simp [Vdp.seen, List.range'_succ, h, hvis]

/-- The scan of one entry; its Y byte is in range. -/
theorem Vdp.scanFrom_cons (ha : a < 32) (acc : SpriteScan) (rest : List Nat) :
    v.scanFrom L acc (a :: rest) =
      if v.continues a = false then { acc with last := a }
      else if v.isVisible L a then
        if acc.visible.length = 4 then { acc with last := a, overflow := true }
        else v.scanFrom L { acc with visible := acc.visible ++ [a], last := a } rest
      else v.scanFrom L { acc with last := a } rest := by
  have hend : Vram.read v.vram (v.vr.spriteEntry a 0) = Config.spriteTerminator ↔ v.continues a = false := by
    rw [Vdp.continues, bne_eq_false_iff_eq]
    exact Iff.rfl
  simp only [Vdp.scanFrom, v.fetch_ok _ (spriteEntry_lt v.vr a 0 ha (by decide)), hend]
  rfl

end

/-- The scan that ends with `seen` visible entries, at index `last` unless a fifth ended it. -/
def scanOf (seen : List Nat) (last : Nat) : SpriteScan :=
  ⟨seen.take 4, if 4 < seen.length then seen.getD 4 0 else last, decide (4 < seen.length), []⟩

theorem scanOf_le {seen : List Nat} (h : seen.length ≤ 4) (last : Nat) : scanOf seen last = ⟨seen, last, false, []⟩ := by
  have h4 : ¬4 < seen.length := by omega
  simp [scanOf, h4, List.take_of_length_le h]

theorem scanOf_fifth {found : List Nat} (h : found.length = 4) (a : Nat) (rest : List Nat) (last : Nat) :
    scanOf (found ++ a :: rest) last = ⟨found, a, true, []⟩ := by
  have h4 : 4 < (found ++ a :: rest).length := by simp [h]
  have htake : (found ++ a :: rest).take 4 = found := by rw [← h, List.take_left]
  have hget : (found ++ a :: rest).getD 4 0 = a := by simp [List.getD_eq_getElem?_getD, ← h]
  simp only [scanOf, h4, if_true, decide_true, htake, hget]

/-- The scan over the last `n` of the 32 entries, after `found` visible ones. -/
theorem Vdp.scanFrom_eq (v : Vdp) (L : Nat) {n a : Nat} {found : List Nat} {last : Nat} (ha : a + n = 32)
    (hfound : found.length ≤ 4) (hlast : n = 0 → last = 31) :
    v.scanFrom L ⟨found, last, false, []⟩ (List.range' a n) =
      scanOf (found ++ v.seen L a n) (min (a + ((List.range' a n).takeWhile v.continues).length) 31) := by
  induction n generalizing a found last with
  | zero =>
    have hmin : min (a + 0) 31 = last := by
      rw [hlast rfl]
      omega
    rw [show v.seen L a 0 = [] from rfl, List.append_nil, scanOf_le hfound]
    exact congrArg (SpriteScan.mk found · false []) hmin.symm
  | succ n ih =>
    rw [List.range'_succ, Vdp.scanFrom_cons (by omega)]
    cases hgo : v.continues a with
    | false =>
      have hmin : min (a + 0) 31 = a := by omega
      rw [if_pos rfl, Vdp.seen_stop hgo, List.append_nil, scanOf_le hfound,
        List.takeWhile_cons_of_neg (by rw [hgo]; decide), List.length_nil, hmin]
    | true =>
      rw [if_neg (by decide), List.takeWhile_cons_of_pos hgo, List.length_cons, ← Nat.add_assoc, Nat.add_right_comm]
      cases hvis : v.isVisible L a with
      | false =>
        rw [if_neg (by decide), Vdp.seen_hidden hgo hvis]
        exact ih (by omega) hfound (by omega)
      | true =>
        rw [if_pos rfl, Vdp.seen_visible hgo hvis]
        by_cases hfull : found.length = 4
        · rw [if_pos hfull, scanOf_fifth hfull]
        · rw [if_neg hfull, List.append_cons found a (v.seen L (a + 1) n)]
          have hroom : (found ++ [a]).length ≤ 4 := by
            rw [List.length_append, List.length_singleton]
            omega
          exact ih (by omega) hroom (by omega)

/-- The visible entries before the first terminator. -/
def Vdp.visibleEntries (v : Vdp) (L : Nat) : List Nat := ((List.range 32).takeWhile v.continues).filter (v.isVisible L)

/-- The scan of a line. -/
theorem Vdp.scanSprites_eq (v : Vdp) (L : Nat) :
    v.scanSprites L = scanOf (v.visibleEntries L) (min ((List.range 32).takeWhile v.continues).length 31) := by
  have h := v.scanFrom_eq L (n := 32) (a := 0) (found := []) (last := 0) rfl (by decide) (by decide)
  rw [List.nil_append, Nat.zero_add, Vdp.seen, ← List.range_eq_range'] at h
  exact h

/-- Settles O53. -/
theorem spriteScan : Obligations.SpriteScan := by
  unfold Obligations.SpriteScan
  intro v L k hv entries seen
  have hscan : v.scanSprites L = scanOf seen (min entries.length 31) := v.scanSprites_eq L
  have hvdp := v.sprites_vdp L k
  rw [hscan] at hvdp ⊢
  refine ⟨rfl, decide_eq_true_iff, rfl, rfl, ?_⟩
  refine hvdp.trans ?_
  simp only [SpriteScan.status, scanOf, decide_eq_true_eq]

/-- The visible entries are among the 32. -/
theorem Vdp.mem_visible {v : Vdp} {L i : Nat} (h : i ∈ (v.scanSprites L).visible) : i < 32 ∧ v.isVisible L i = true := by
  rw [v.scanSprites_eq] at h
  obtain ⟨hmem, hvis⟩ := List.mem_filter.mp (List.mem_of_mem_take h)
  exact ⟨List.mem_range.mp ((List.takeWhile_sublist _).subset hmem), hvis⟩

/-! ## Geometry -/

theorem VdpRegs.spriteVisible_iff (vr : VdpRegs) (y : Byte) (L : Nat) :
    vr.spriteVisible y L = true ↔ vr.spriteY y + 1 ≤ (L : Int) ∧ (L : Int) < vr.spriteY y + vr.spriteHeight := by
  simp [VdpRegs.spriteVisible]

/-- The scale of magnification. -/
theorem VdpRegs.spriteScale (vr : VdpRegs) : 2 ^ vr.spriteShift = if vr.magnify then 2 else 1 := by
  rw [VdpRegs.spriteShift]
  cases vr.magnify <;> rfl

/-- Dividing by the scale, over the naturals and over the integers. -/
theorem VdpRegs.div_spriteScale (vr : VdpRegs) (z : Int) :
    z.toNat / 2 ^ vr.spriteShift = (z / (if vr.magnify then 2 else 1)).toNat := by
  rw [vr.spriteScale]
  cases vr.magnify with
  | false => simp
  | true =>
    simp only [if_true]
    omega

theorem VdpRegs.spriteHeight_eq (vr : VdpRegs) :
    (vr.spriteHeight : Int) = (if vr.large then 16 else 8) * (if vr.magnify then 2 else 1) := by
  rw [VdpRegs.spriteHeight, VdpRegs.spriteSize, VdpRegs.spriteScale]
  cases vr.large <;> cases vr.magnify <;> rfl

theorem VdpRegs.spriteHeight_le (vr : VdpRegs) : vr.spriteHeight ≤ 32 := by
  have h := vr.spriteHeight_eq
  split at h <;> split at h <;> omega

/-- The position of a Y byte (R843), over the integers. -/
theorem VdpRegs.spriteY_eq (vr : VdpRegs) (y : Byte) :
    vr.spriteY y = if (y.toNat : Int) > 256 - vr.spriteHeight then (y.toNat : Int) - 256 else y.toNat := by
  have h := vr.spriteHeight_le
  simp only [VdpRegs.spriteY]
  split <;> split <;> omega

/-- The columns of 0..255 that a pattern row's set bits cover. -/
theorem mem_spriteColumns {bits : BitVec 16} {w : Nat} {mag : Bool} {xs : Int} {x : Nat} :
    x ∈ spriteColumns bits w mag.toNat xs ↔
      x ≤ 255 ∧ 0 ≤ (x : Int) - xs ∧ (x : Int) - xs < w * (if mag then 2 else 1) ∧
      bits.getLsbD (w - 1 - (((x : Int) - xs) / (if mag then 2 else 1)).toNat) = true := by
  have hscale : 2 ^ mag.toNat = if mag then 2 else 1 := by cases mag <;> rfl
  have hcast : ((if mag then 2 else 1 : Nat) : Int) = if mag then 2 else 1 := by cases mag <;> rfl
  simp only [spriteColumns, List.mem_filterMap, List.mem_range, Bool.and_eq_true, decide_eq_true_eq,
    Option.ite_none_right_eq_some, Option.some.injEq, hscale]
  constructor
  · rintro ⟨k, hk, ⟨⟨hbit, hlow⟩, hhigh⟩, hx⟩
    have hxk : (x : Int) - xs = k := by omega
    rw [hxk, ← hcast, ← Int.natCast_ediv, Int.toNat_natCast]
    exact ⟨by omega, by omega, by exact_mod_cast hk, hbit⟩
  · rintro ⟨hx, hlow, hhigh, hbit⟩
    obtain ⟨k, hk⟩ := Int.eq_ofNat_of_zero_le hlow
    rw [hk, ← hcast] at hhigh hbit
    rw [← Int.natCast_ediv, Int.toNat_natCast] at hbit
    exact ⟨k, by exact_mod_cast hhigh, ⟨⟨hbit, by omega⟩, by omega⟩, by omega⟩

/-- Where an entry is visible, the pattern row it draws is one of its size. -/
theorem VdpRegs.spriteRow_lt {vr : VdpRegs} {y : Byte} {L : Nat} (h : vr.spriteVisible y L = true) :
    ((L : Int) - (vr.spriteY y + 1)).toNat / 2 ^ vr.spriteShift < vr.spriteSize := by
  obtain ⟨hlow, hhigh⟩ := (vr.spriteVisible_iff y L).mp h
  rw [Nat.div_lt_iff_lt_mul (Nat.two_pow_pos _)]
  rw [VdpRegs.spriteHeight] at hhigh
  omega

/-- A name without its two low bits, in bytes of pattern. -/
theorem quadrantName : ∀ name : Byte, (name &&& 0xFC).toNat * 8 = name.toNat / 4 * 32 := by decide

/-- The pattern row `r` of a name: 8 bits, or two quadrants 16 bytes apart (R846). -/
def Vdp.patternRow (v : Vdp) (name : Nat) (r : Nat) : BitVec 16 :=
  if v.vr.large then
    Bits.pair (Vram.read v.vram (v.vr.spritePatterns + (name / 4 * 32 + r)))
      (Vram.read v.vram (v.vr.spritePatterns + (name / 4 * 32 + 16 + r)))
  else (Vram.read v.vram (v.vr.spritePatterns + (name * 8 + r))).setWidth 16

/-- The pattern addresses of a row of the sprite's size are in range. -/
theorem Vdp.spriteBits_ok {v : Vdp} {r : Nat} (hr : r < v.vr.spriteSize) (name : Byte) :
    v.spriteBits name r = .ok (v.patternRow name.toNat r) := by
  have hname := name.isLt
  have h6 : (v.vr.r6 &&& 0x07).toNat ≤ 7 := Nat.and_le_right
  have hbase : v.vr.spritePatterns ≤ 7 * 0x800 := Nat.mul_le_mul_right _ h6
  cases hl : v.vr.large with
  | false =>
    have hr : r < 8 := by simpa [VdpRegs.spriteSize, hl] using hr
    simp only [Vdp.spriteBits, Vdp.patternRow, hl, Nat.add_assoc, Bool.false_eq_true, if_false]
    rw [v.fetch_ok _ (by simp only [Config.vramSize]; omega)]
    rfl
  | true =>
    have hr : r < 16 := by simpa [VdpRegs.spriteSize, hl] using hr
    simp only [Vdp.spriteBits, Vdp.patternRow, hl, Nat.add_assoc, quadrantName, if_true]
    rw [v.fetch_ok _ (by simp only [Config.vramSize]; omega), v.fetch_ok _ (by simp only [Config.vramSize]; omega)]
    rfl

/-- What visible entry `i` draws on line `L` (R842, R846). -/
def Vdp.drawnRow (v : Vdp) (L i : Nat) : SpriteRow where
  columns := spriteColumns
    (v.patternRow (Vram.read v.vram (v.vr.spriteEntry i 2)).toNat
      (((L : Int) - (v.vr.spriteY (Vram.read v.vram (v.vr.spriteEntry i 0)) + 1)).toNat / 2 ^ v.vr.spriteShift))
    v.vr.spriteSize v.vr.spriteShift
    (spriteX (Vram.read v.vram (v.vr.spriteEntry i 1)) (Vram.read v.vram (v.vr.spriteEntry i 3)))
  colour := (Vram.read v.vram (v.vr.spriteEntry i 3)).extractLsb' 0 4

/-- A visible entry's addresses are in range. -/
theorem Vdp.spriteRow_ok {v : Vdp} {L i : Nat} (hi : i < 32) (hvis : v.isVisible L i = true) :
    v.spriteRow L i = .ok (v.drawnRow L i) := by
  have hentry (k : Nat) (hk : k < 4) := v.fetch_ok _ (spriteEntry_lt v.vr i k hi hk)
  simp only [Vdp.spriteRow, hentry 0 (by decide), hentry 1 (by decide), hentry 2 (by decide), hentry 3 (by decide), bind,
    Except.bind, Vdp.spriteBits_ok (VdpRegs.spriteRow_lt hvis)]
  rfl

/-- Settles O54. -/
theorem spriteGeometry : Obligations.SpriteGeometry := by
  unfold Obligations.SpriteGeometry
  refine ⟨fun vr y L => ?_, fun bits w mag xs x => mem_spriteColumns, fun v L i hv hi hvis => ?_⟩
  · rw [vr.spriteVisible_iff, vr.spriteY_eq, vr.spriteHeight_eq]
    exact Iff.rfl
  · intro entry large scale h y ys r name pattern bits xs
    have hys : v.vr.spriteY (Vram.read v.vram (v.vr.spriteEntry i 0)) = ys := by
      rw [v.vr.spriteY_eq, v.vr.spriteHeight_eq]
      rfl
    have hrow := Vdp.spriteRow_ok hi hvis
    rw [Vdp.drawnRow, hys, v.vr.div_spriteScale] at hrow
    exact hrow

end Sys2Proof.Machine
end

section
/-! The sprites of a line as a list of pixels (48_vdp.md R846), and their collision (R848). -/

namespace Sys2Proof.Machine

/-! ## Sprite pixels -/

/-- The pixels a sprite row plots: none in colour 0. -/
def SpriteRow.pixels (row : SpriteRow) : List (Nat × BitVec 4) :=
  if row.colour = 0 then [] else row.columns.map fun x => (x, row.colour)

theorem SpriteRow.mem_pixels {row : SpriteRow} {p : Nat × BitVec 4} :
    p ∈ row.pixels ↔ row.colour ≠ 0 ∧ p.1 ∈ row.columns ∧ p.2 = row.colour := by
  obtain ⟨x, c⟩ := p
  by_cases h : row.colour = 0
  · simp [SpriteRow.pixels, h]
  · simp only [SpriteRow.pixels, if_neg h, List.mem_map, Prod.mk.injEq]
    constructor
    · rintro ⟨x, hx, rfl, rfl⟩
      exact ⟨h, hx, rfl⟩
    · rintro ⟨-, hx, hc⟩
      exact ⟨x, hx, rfl, hc.symm⟩

/-- The row shows in column `x`. -/
def SpriteRow.covers (x : Nat) (row : SpriteRow) : Bool := row.colour != 0 && row.columns.contains x

theorem SpriteRow.covers_iff {x : Nat} {row : SpriteRow} : row.covers x = true ↔ ∃ p ∈ row.pixels, p.1 = x := by
  have h : (∃ p ∈ row.pixels, p.1 = x) ↔ row.colour ≠ 0 ∧ x ∈ row.columns := by
    constructor
    · rintro ⟨p, hp, rfl⟩
      obtain ⟨hc, hx, -⟩ := SpriteRow.mem_pixels.mp hp
      exact ⟨hc, hx⟩
    · rintro ⟨hc, hx⟩
      exact ⟨(x, row.colour), SpriteRow.mem_pixels.mpr ⟨hc, hx, rfl⟩, rfl⟩
  rw [h]
  simp [SpriteRow.covers]

theorem Canvas.plotSprite_eq (k : Canvas) (vr : VdpRegs) (L : Nat) (row : SpriteRow) :
    k.plotSprite vr L row = k.plots vr L row.pixels := by
  by_cases h : row.colour = 0
  · rw [Canvas.plotSprite, if_neg (by simp [h]), SpriteRow.pixels, if_pos h, Canvas.plots_nil]
  · rw [Canvas.plotSprite, if_pos ⟨h, rfl⟩, SpriteRow.pixels, if_neg h, Canvas.plots, List.foldl_map]

/-- The pixels of a line's sprites, from the last row to the first. -/
def spritePixels (rows : List SpriteRow) : List (Nat × BitVec 4) := rows.reverse.flatMap SpriteRow.pixels

theorem spritePixels_cons (row : SpriteRow) (rows : List SpriteRow) :
    spritePixels (row :: rows) = spritePixels rows ++ row.pixels := by
  simp [spritePixels]

theorem Canvas.plots_append (k : Canvas) (vr : VdpRegs) (L : Nat) (ps qs : List (Nat × BitVec 4)) :
    k.plots vr L (ps ++ qs) = (k.plots vr L ps).plots vr L qs := List.foldl_append

section
variable {rows : List SpriteRow} (hrows : ∀ row ∈ rows, ∀ x ∈ row.columns, x < 256)

include hrows in
theorem spritePixels_lt : ∀ p ∈ spritePixels rows, p.1 < 256 := by
  intro p hp
  obtain ⟨row, hrow, hp⟩ := List.mem_flatMap.mp hp
  exact hrows row (List.mem_reverse.mp hrow) p.1 (SpriteRow.mem_pixels.mp hp).2.1

/-- No pixel lies in a column that no row covers. -/
theorem spritePixels_uncovered {x : Nat} (h : rows.find? (SpriteRow.covers x) = none) :
    ∀ p ∈ spritePixels rows, p.1 ≠ x := by
  intro p hp hpx
  obtain ⟨row, hrow, hp⟩ := List.mem_flatMap.mp hp
  exact List.find?_eq_none.mp h row (List.mem_reverse.mp hrow) (SpriteRow.covers_iff.mpr ⟨p, hp, hpx⟩)

include hrows in
/-- A covered column shows the first row that covers it: the later rows are drawn before it. -/
theorem spritePixels_shows (vr : VdpRegs) (L : Nat) {x : Nat} (hx : x < 256) {row : SpriteRow}
    (h : rows.find? (SpriteRow.covers x) = some row) (k : Canvas)
    (ha : FrameBuffer.read k.fb (FrameBuffer.offset x L + 3) = 255) :
    ShowsColour (k.plots vr L (spritePixels rows)).fb x L row.colour := by
  induction rows with
  | nil => simp at h
  | cons r rows ih =>
    rw [List.forall_mem_cons] at hrows
    have hps : ∀ p ∈ r.pixels, p.1 < 256 := fun p hp => hrows.1 p.1 (SpriteRow.mem_pixels.mp hp).2.1
    rw [spritePixels_cons, Canvas.plots_append]
    cases hcov : r.covers x with
    | true =>
      rw [List.find?_cons_of_pos hcov, Option.some.injEq] at h
      subst h
      have hshows := Canvas.plots_shows vr L hps (SpriteRow.covers_iff.mp hcov)
        (fun p hp _ => (SpriteRow.mem_pixels.mp hp).2.2) (k.plots vr L (spritePixels rows)) (by rw [Canvas.plots_alpha, ha])
      have hc : r.colour ≠ 0 := by
        obtain ⟨p, hp, -⟩ := SpriteRow.covers_iff.mp hcov
        exact (SpriteRow.mem_pixels.mp hp).1
      rwa [VdpRegs.shown, if_neg hc] at hshows
    | false =>
      rw [List.find?_cons_of_neg (by rw [hcov]; decide)] at h
      have hkept : ∀ p ∈ r.pixels, p.1 ≠ x := fun p hp hpx => by
        rw [SpriteRow.covers_iff.mpr ⟨p, hp, hpx⟩] at hcov
        cases hcov
      rw [ShowsColour, Canvas.plots_pixel_other vr L hps hx fun _ => hkept]
      exact ih hrows.2 h

end

/-! ## Collision -/

/-- Rows collide where two of them share a column. -/
theorem spritesCollide_iff (rows : List SpriteRow) :
    spritesCollide rows = false ↔ rows.Pairwise fun a b => a.columns.Disjoint b.columns := by
  induction rows with
  | nil => simp [spritesCollide]
  | cons row rows ih =>
    rw [spritesCollide, Bool.or_eq_false_iff, ih, List.pairwise_cons]
    refine and_congr_left fun _ => ?_
    simp only [List.any_eq_false, List.contains_iff_mem, Bool.not_eq_true, List.Disjoint]
    exact ⟨fun h b hb x hx hxb => h x hx b hb hxb, fun h x hx b hb hxb => h b hb hx hxb⟩

theorem spritesCollide_reverse (rows : List SpriteRow) : spritesCollide rows.reverse = true ↔
    ∃ (x i j : Nat) (a b : SpriteRow), i < j ∧ rows[i]? = some a ∧ rows[j]? = some b ∧ x ∈ a.columns ∧ x ∈ b.columns := by
  have hrev : spritesCollide rows.reverse = false ↔ rows.Pairwise fun a b => a.columns.Disjoint b.columns := by
    rw [spritesCollide_iff, List.pairwise_reverse]
    exact List.Pairwise.iff fun a b => List.disjoint_comm
  rw [← Bool.not_eq_false, hrev, List.pairwise_iff_getElem]
  constructor
  · intro h
    by_contra hnone
    refine h fun i j hi hj hij x hxa hxb => hnone ?_
    exact ⟨x, i, j, rows[i], rows[j], hij, List.getElem?_eq_getElem hi, List.getElem?_eq_getElem hj, hxa, hxb⟩
  · rintro ⟨x, i, j, a, b, hij, ha, hb, hxa, hxb⟩ h
    obtain ⟨hi, rfl⟩ := List.getElem?_eq_some_iff.mp ha
    obtain ⟨hj, rfl⟩ := List.getElem?_eq_some_iff.mp hb
    exact h i j hi hj hij hxa hxb

/-! ## The sprites of a line -/

/-- The rows of the visible sprites, where none is out of range. -/
theorem Vdp.spriteRows_eq {v : Vdp} {L : Nat} {is : List Nat} {rows : List SpriteRow}
    (h : is.map (v.spriteRow L) = rows.map Except.ok) : v.spriteRows L is = (rows, []) := by
  induction is generalizing rows with
  | nil =>
    cases rows with
    | nil => rfl
    | cons row rows => cases h
  | cons i is ih =>
    cases rows with
    | nil => cases h
    | cons row rows =>
      obtain ⟨hrow, hrest⟩ := List.cons_eq_cons.mp h
      rw [Vdp.spriteRows, ih hrest, hrow]

section
variable {v : Vdp} {L : Nat} {rows : List SpriteRow}

theorem Vdp.sprites_eq (h : (v.scanSprites L).visible.map (v.spriteRow L) = rows.map Except.ok) (k : Canvas) :
    v.sprites L k = ({ v with
      status := (v.scanSprites L).status v.status
      collisionAcc := v.collisionAcc || spritesCollide rows.reverse }, k.plots v.vr L (spritePixels rows)) := by
  have hrows : v.spriteRows L (v.scanSprites L).visible.reverse = (rows.reverse, []) :=
    Vdp.spriteRows_eq (by rw [List.map_reverse, h, List.map_reverse])
  have hskipped : (v.scanSprites L).skipped = [] := by
    rw [v.scanSprites_eq]
    rfl
  have hplots : rows.reverse.foldl (fun k row => k.plotSprite v.vr L row) k = k.plots v.vr L (spritePixels rows) := by
    simp only [Canvas.plotSprite_eq, Canvas.plots, spritePixels, List.foldl_flatMap]
  simp only [Vdp.sprites, hrows, hskipped, List.append_nil, List.foldl_nil, hplots]

/-- What a visible sprite draws lies inside the frame. -/
theorem Vdp.spriteRow_columns_lt (h : (v.scanSprites L).visible.map (v.spriteRow L) = rows.map Except.ok) :
    ∀ row ∈ rows, ∀ x ∈ row.columns, x < 256 := by
  intro row hrow x hx
  have hmem : Except.ok row ∈ (v.scanSprites L).visible.map (v.spriteRow L) := h ▸ List.mem_map_of_mem hrow
  obtain ⟨i, hi, hok⟩ := List.mem_map.mp hmem
  obtain ⟨hlt, hvis⟩ := Vdp.mem_visible hi
  rw [Vdp.spriteRow_ok hlt hvis, Except.ok.injEq] at hok
  subst hok
  have := (mem_spriteColumns (mag := v.vr.magnify)).mp hx
  omega

/-- No visible sprite is out of range. -/
theorem Vdp.spriteRow_visible (v : Vdp) (L : Nat) : (v.scanSprites L).visible.map (v.spriteRow L) =
    ((v.scanSprites L).visible.map (v.drawnRow L)).map Except.ok := by
  rw [List.map_map]
  refine List.map_congr_left fun i hi => ?_
  obtain ⟨hlt, hvis⟩ := Vdp.mem_visible hi
  exact Vdp.spriteRow_ok hlt hvis

end

/-- Settles O55. -/
theorem spritesOnALine : Obligations.SpritesOnALine := by
  unfold Obligations.SpritesOnALine
  intro v L k rows hv hL h ha out
  have hout : out = _ := Vdp.sprites_eq h k
  have hcolumns := Vdp.spriteRow_columns_lt h
  rw [hout]
  refine ⟨fun x hx row hrow => spritePixels_shows hcolumns v.vr L hx hrow k (ha x L), fun x hx hnone => ?_,
    fun x hx y hy => ?_, ?_, Canvas.plots_log _ _ _ _⟩
  · exact Canvas.plots_pixel_other v.vr L (spritePixels_lt hcolumns) hx (fun _ => spritePixels_uncovered hnone) k
  · exact Canvas.plots_pixel_other v.vr L (spritePixels_lt hcolumns) hx (fun e => absurd e hy) k
  · rw [Bool.or_eq_true, spritesCollide_reverse]

end Sys2Proof.Machine
end

section
/-! The scanline tick (48_vdp.md R830 to R835). -/

namespace Sys2Proof.Machine

/-! ## The three kinds of line -/

/-- The background changes `modeFault` of the VDP, nothing else. -/
theorem Vdp.background_vdp (v : Vdp) (L : Nat) (k : Canvas) :
    (v.background L k).1 = { v with modeFault := (v.background L k).1.modeFault } := by
  simp only [Vdp.background]
  split <;> rfl

/-- What an active line changes of the VDP. -/
theorem Vdp.activeLine_vdp (v : Vdp) (L : Nat) :
    (v.activeLine L).1 = { v with
      status := (v.activeLine L).1.status
      collisionAcc := (v.activeLine L).1.collisionAcc
      fb := (v.activeLine L).1.fb
      modeFault := (v.activeLine L).1.modeFault } := by
  simp only [Vdp.activeLine, Vdp.sprites, Vdp.background]
  split <;> rfl

section
variable {s : State}

theorem State.tick_of_lt (h : s.vdp.nextLine < 192) :
    s.tick = (s.setVdp (({ s.vdp with line := s.vdp.nextLine } : Vdp).activeLine s.vdp.nextLine).1).emit
      (({ s.vdp with line := s.vdp.nextLine } : Vdp).activeLine s.vdp.nextLine).2 :=
  if_pos ⟨Nat.zero_le _, Nat.le_of_lt_succ h⟩

theorem State.tick_of_eq (h : s.vdp.nextLine = 192) :
    s.tick = (s.setVdp ({ s.vdp with line := s.vdp.nextLine } : Vdp).vblankLine).setNmiPending
      (s.nmiPending || s.vdp.requestsNmi) := by
  simp only [State.tick, h, Params.vdpStartLine, Params.vdpEndLine]
  rfl

theorem State.tick_of_gt (h : 192 < s.vdp.nextLine) : s.tick = s.setVdp { s.vdp with line := s.vdp.nextLine } := by
  have hactive : ¬(Params.vdpStartLine ≤ s.vdp.nextLine ∧ s.vdp.nextLine ≤ Params.vdpEndLine) := by
    simp only [Params.vdpStartLine, Params.vdpEndLine]
    omega
  have hvblank : ¬s.vdp.nextLine = Params.vdpEndLine + 1 := by
    simp only [Params.vdpEndLine]
    omega
  simp only [State.tick, if_neg hactive, if_neg hvblank]

end

/-- COL: setting it where it is set changes nothing. -/
theorem vblankStatus_eq : ∀ (x : Byte) (c : Bool),
    x ||| 0x80 ||| (if x.getLsbD 5 = false ∧ c = true then 0x20 else 0x00) = x ||| 0x80 ||| (if c then 0x20 else 0) := by decide

/-- Settles O51. -/
theorem tickSchedule : Obligations.TickSchedule := by
  unfold Obligations.TickSchedule
  intro s hline
  have hl : (if s.vdp.line = 261 then 0 else s.vdp.line + 1) = s.vdp.nextLine := by
    simp only [Vdp.nextLine, Config.lines]
    split <;> omega
  rw [hl]
  refine ⟨s.tick_line, State.tick_of_gt, fun h => ?_, State.tick_active s, fun h => ?_⟩
  · rw [State.tick_of_eq h, Vdp.vblankLine, Vdp.vblankStatus, vblankStatus_eq]
    rfl
  · rw [State.tick_of_lt h]
    exact congrArg (fun w => (s.setVdp w).emit
      (({ s.vdp with line := s.vdp.nextLine } : Vdp).activeLine s.vdp.nextLine).2) (Vdp.activeLine_vdp _ _)

/-! ## An active line's pixels -/

/-- An active line draws pixels inside the frame and logs nothing. -/
theorem Vdp.activeLine_plots {v : Vdp} (hv : v.vr.Masked) {L : Nat} (hL : L < 192) :
    ∃ ps : List (Nat × BitVec 4), (∀ p ∈ ps, p.1 < 256) ∧
      (v.activeLine L).1.fb = ((⟨v.fb, []⟩ : Canvas).plots v.vr L ps).fb ∧ (v.activeLine L).2 = [] := by
  obtain ⟨ps, hps, hground⟩ := Vdp.background_plots hv hL ⟨v.fb, []⟩
  have hvr : (v.background L ⟨v.fb, []⟩).1.vr = v.vr := by rw [Vdp.background_vdp]
  have hrows := (v.background L ⟨v.fb, []⟩).1.spriteRow_visible L
  have hsprites := Vdp.sprites_eq hrows (v.background L ⟨v.fb, []⟩).2
  have hcolumns := spritePixels_lt (Vdp.spriteRow_columns_lt hrows)
  rw [hvr, hground, ← Canvas.plots_append] at hsprites
  refine ⟨_, List.forall_mem_append.mpr ⟨hps, hcolumns⟩, ?_, ?_⟩
  · show ((v.background L ⟨v.fb, []⟩).1.sprites L (v.background L ⟨v.fb, []⟩).2).2.fb = _
    rw [hground, hsprites]
  · show ((v.background L ⟨v.fb, []⟩).1.sprites L (v.background L ⟨v.fb, []⟩).2).2.log = _
    rw [hground, hsprites, Canvas.plots_log]

end Sys2Proof.Machine
end

section
/-! Every step keeps the invariant: the CPU step does, at a cost of at most 23, and the end of the step does where the cost is
below the period. -/

namespace Sys2Proof.Machine

/-! ## The CPU step -/

/-- What an instruction keeps is the invariant. -/
theorem State.ExecKeeps.inv {s t : State} (h : s.ExecKeeps t) (hs : s.Inv) : t.Inv where
  mem := h.mem hs.mem
  vram := h.vdp.vram hs.vram
  fb := by rw [h.vdp.fb]; exact hs.fb
  masked := h.vdp.masked hs.masked
  line := by rw [h.vdp.line]; exact hs.line
  period := by rw [h.periodCounter]; exact hs.period
  alpha := by rw [h.vdp.fb]; exact hs.alpha
  inRange a ha := hs.inRange a (h.events a ha)

theorem State.execKeeps_refresh {s t : State} (k : Nat) : s.ExecKeeps (t.refresh k) ↔ s.ExecKeeps t :=
  ⟨fun h => { h with }, fun h => { h with }⟩

theorem State.execKeeps_afterFetch (s : State) (i : Instr) : s.ExecKeeps (s.afterFetch i) := by
  simp [State.afterFetch, State.execKeeps_refresh]

theorem State.execKeeps_enterInterrupt (s : State) (vector : Word) (cost : Nat) :
    s.ExecKeeps (s.enterInterrupt vector cost) := by
  simp [State.enterInterrupt, State.execKeeps_refresh]

/-- The CPU step keeps the invariant; where it raises no fault, it costs at most 23. -/
theorem State.cpuStep_inv {s t : State} (hs : s.Inv) (h : s.cpuStep = .next t) :
    t.Inv ∧ (t.fault = none → t.cost ≤ 23) := by
  simp only [State.cpuStep] at h
  split at h
  · cases h
    have hs : (s.setNmiPending false).Inv := { hs with }
    exact ⟨(State.execKeeps_enterInterrupt _ _ _).inv hs, fun _ => (by decide : Params.nmiCost ≤ 23)⟩
  split at h
  · cases h
    rw [State.maskableStep]
    split
    · have hs : (s.setIff2 false).Inv := { hs with }
      exact ⟨(State.execKeeps_enterInterrupt _ _ _).inv hs, fun _ => (by decide : Params.im1Cost ≤ 23)⟩
    · exact ⟨{ hs with }, by simp⟩
  split at h
  · cases h
    exact ⟨{ hs with }, fun _ => (by decide : Params.haltIdleCost ≤ 23)⟩
  simp only [State.fetchStep] at h
  split at h
  · next i hdec =>
    obtain ⟨u, taken, hcost⟩ := exec_eq_next_withCost i (s.afterFetch i)
    have hinv := (exec_keeps h).inv ((s.execKeeps_afterFetch i).inv hs)
    rw [hcost] at h
    cases h
    exact ⟨hinv, fun _ => (Params.cost_range i taken).2⟩
  · cases h
    exact ⟨{ hs with }, by simp⟩

/-! ## The end of the step -/

/-- A tick keeps the invariant. -/
theorem State.Inv.tick {s : State} (hs : s.Inv) : s.tick.Inv := by
  obtain ⟨hvr, hvram, -⟩ := s.tick_ports
  have hframe := s.tick_frame
  have hdrawn : FrameBuffer.wf s.tick.vdp.fb = true ∧
      (∀ x y, FrameBuffer.read s.tick.vdp.fb (FrameBuffer.offset x y + 3) = 255) ∧ s.tick.events = s.events := by
    rcases Nat.lt_trichotomy s.vdp.nextLine 192 with h | h | h
    · obtain ⟨ps, hps, hfb, hlog⟩ :=
        Vdp.activeLine_plots (v := { s.vdp with line := s.vdp.nextLine }) hs.masked h
      rw [State.tick_of_lt h]
      refine ⟨?_, fun x y => ?_, ?_⟩
      · show FrameBuffer.wf (Vdp.activeLine _ _).1.fb = true
        rw [hfb]
        exact Canvas.plots_wf _ _ h hps _ hs.fb
      · show FrameBuffer.read (Vdp.activeLine _ _).1.fb _ = 255
        rw [hfb, Canvas.plots_alpha]
        exact hs.alpha x y
      · show s.events ++ (Vdp.activeLine _ _).2 = s.events
        rw [hlog, List.append_nil]
    · rw [State.tick_of_eq h]
      exact ⟨hs.fb, hs.alpha, rfl⟩
    · rw [State.tick_of_gt h]
      exact ⟨hs.fb, hs.alpha, rfl⟩
  obtain ⟨hfb, halpha, hevents⟩ := hdrawn
  exact {
    mem := by rw [hframe]; exact hs.mem
    vram := by rw [hvram]; exact hs.vram
    fb := hfb
    masked := by rw [hvr]; exact hs.masked
    line := by rw [s.tick_line]; exact Nat.mod_lt _ (by decide)
    period := by rw [hframe]; exact hs.period
    alpha := halpha
    inRange := by rw [hevents]; exact hs.inRange }

/-- The time base keeps the invariant where the step's cost is less than a line. -/
theorem State.Inv.updateTimeBase {s : State} (hs : s.Inv) (hcost : s.cost ≤ 23) : s.updateTimeBase.Inv := by
  obtain ⟨hlow, hhigh⟩ := hs.period
  simp only [Params.linePeriod] at hhigh
  simp only [State.updateTimeBase]
  split
  · next hp =>
    refine State.Inv.tick { hs with period := ?_ }
    simp only [Params.linePeriod]
    omega
  · next hp =>
    refine { hs with period := ?_ }
    simp only [Params.linePeriod]
    omega

/-- The end of a step keeps the invariant. -/
theorem State.Inv.endStep {s : State} (hs : s.Inv) (hcost : s.fault = none → s.cost ≤ 23) : s.endStep.Inv := by
  cases hf : s.fault with
  | none =>
    rw [State.endStep_eq hf]
    exact { hs.updateTimeBase (hcost hf) with }
  | some record =>
    rw [State.endStep, hf]
    exact hs

/-- Settles O60: the CPU step keeps the invariant, and so does the end of the step. -/
theorem stepKeepsInvariant : Obligations.StepKeepsInvariant := by
  unfold Obligations.StepKeepsInvariant
  intro s t hs h
  cases hf : s.fault with
  | some record =>
    rw [step_of_fault hf] at h
    cases h
  | none =>
    simp only [step, State.systemStep, hf] at h
    split at h
    · next u hu =>
      cases h
      obtain ⟨hinv, hcost⟩ := State.cpuStep_inv hs hu
      exact hinv.endStep hcost
    · cases h
    · cases h

end Sys2Proof.Machine
end
